-- ==== Sys2Proof/Word.lean ====
section
/-! DEFINITION. The word types of the machine (00_scope.md R8, R10). -/

namespace Sys2Proof

/-- An element of `u8`: the addressable unit and the width of the data registers (R8). -/
abbrev Byte := BitVec 8

/-- An element of `u16`: the width of an address, of SP, of PC and of the register pairs (R8). -/
abbrev Word := BitVec 16

end Sys2Proof
end

