-- ==== Sys2Proof/Machine/Bits.lean ====
section
/-! DEFINITION. Byte order, halves of a word and sign extension (00_scope.md R10, 20_memory.md R235). -/

namespace Sys2Proof

/-- `hi ++ lo = (hi << 8) | lo` (R10); a 16-bit immediate or memory value has its low byte at the lower
address (R235, R306). -/
def joinBytes (hi lo : Byte) : Word := hi ++ lo

/-- `v[15:8]` (R10). -/
def hiByte (v : Word) : Byte := v.extractLsb' 8 8

/-- `v[7:0]` (R10). -/
def loByte (v : Word) : Byte := v.extractLsb' 0 8

/-- `sext_16(b)`: the byte read as a two's-complement value, widened to 16 bits (R10, R305). -/
def sext16 (b : Byte) : Word := b.signExtend 16

end Sys2Proof
end

