-- ==== Sys2Proof/Syntax.lean ====
section
/-! DEFINITION. The syntax: operand selectors (10_state.md R105, 30_encoding.md R310 to R314) and the instruction
type, one constructor per row of spec/opcode_table.json: first the rows with an immediate, then the others, each in the
table's order. A constructor is named after the row's source
mnemonic: `Mhl` is `(HL)`, `Mbc` `(BC)`, `Mde` `(DE)`, `Mhli` `(HL+)`, `Mhld` `(HL-)`, `Ma16` `(a16)`, `Ma8` `(a8)`,
`Mc` `(C)`; `Bc De Hl Sp Af` are register pairs, single capitals are 8-bit registers. Immediates are the bytes or
the word of the encoding (R305, R306). -/

namespace Sys2Proof

/-- 8-bit register selector (R105): F is not selectable. -/
inductive Reg8 where
  | a | b | c | d | e | h | l
deriving DecidableEq, Repr

/-- 16-bit register selector (R105). -/
inductive Reg16 where
  | af | bc | de | hl | sp | pc
deriving DecidableEq, Repr

/-- Flag selector (R105). -/
inductive Flag where
  | z | n | h | c
deriving DecidableEq, Repr

/-- The 8-bit operand `r` (R12, R310): a register, or the memory byte at HL. -/
inductive R8 where
  | reg (r : Reg8)
  | mhl
deriving DecidableEq, Repr

/-- The 16-bit register field `rr` (R311). -/
inductive RR where
  | bc | de | hl | sp
deriving DecidableEq, Repr

/-- The 16-bit register field `qq` (R312). -/
inductive QQ where
  | bc | de | hl | af
deriving DecidableEq, Repr

/-- The condition field `cc` (R313). -/
inductive Cond where
  | nz | z | nc | c
deriving DecidableEq, Repr

/-- The ALU operation field (R314). -/
inductive AluOp where
  | add | adc | sub | sbc | and | xor | or | cp
deriving DecidableEq, Repr

/-- The rotate/shift field of the CB table (R314). -/
inductive RotOp where
  | rlc | rrc | rl | rr | sla | sra | swap | srl
deriving DecidableEq, Repr

/-- A bit index (R12, R301). -/
inductive BitIx where
  | b0 | b1 | b2 | b3 | b4 | b5 | b6 | b7
deriving DecidableEq, Repr

/-- A restart selector (R12, R616). -/
inductive Rst where
  | t00 | t08 | t10 | t18 | t20 | t28 | t30 | t38
deriving DecidableEq, Repr

/-- The entries of the primary table (R315) and of the CB table (R316). -/
inductive Instr where
  | ldBcD16 (nn : Word)
  | ldBD8 (n : Byte)
  | ldMa16Sp (nn : Word)
  | ldCD8 (n : Byte)
  | stop (n : Byte)
  | ldDeD16 (nn : Word)
  | ldDD8 (n : Byte)
  | jrE8 (n : Byte)
  | ldED8 (n : Byte)
  | jrNzE8 (n : Byte)
  | ldHlD16 (nn : Word)
  | ldHD8 (n : Byte)
  | jrZE8 (n : Byte)
  | ldLD8 (n : Byte)
  | jrNcE8 (n : Byte)
  | ldSpD16 (nn : Word)
  | ldMhlD8 (n : Byte)
  | jrCE8 (n : Byte)
  | ldAD8 (n : Byte)
  | jpNzA16 (nn : Word)
  | jpA16 (nn : Word)
  | callNzA16 (nn : Word)
  | addAD8 (n : Byte)
  | jpZA16 (nn : Word)
  | callZA16 (nn : Word)
  | callA16 (nn : Word)
  | adcAD8 (n : Byte)
  | jpNcA16 (nn : Word)
  | callNcA16 (nn : Word)
  | subD8 (n : Byte)
  | jpCA16 (nn : Word)
  | callCA16 (nn : Word)
  | sbcAD8 (n : Byte)
  | ldhMa8A (n : Byte)
  | andD8 (n : Byte)
  | addSpE8 (n : Byte)
  | ldMa16A (nn : Word)
  | xorD8 (n : Byte)
  | ldhAMa8 (n : Byte)
  | orD8 (n : Byte)
  | ldHlSpE8 (n : Byte)
  | ldAMa16 (nn : Word)
  | cpD8 (n : Byte)
  | nop
  | ldMbcA
  | incBc
  | incB
  | decB
  | rlca
  | addHlBc
  | ldAMbc
  | decBc
  | incC
  | decC
  | rrca
  | ldMdeA
  | incDe
  | incD
  | decD
  | rla
  | addHlDe
  | ldAMde
  | decDe
  | incE
  | decE
  | rra
  | ldMhliA
  | incHl
  | incH
  | decH
  | daa
  | addHlHl
  | ldAMhli
  | decHl
  | incL
  | decL
  | cpl
  | ldMhldA
  | incSp
  | incMhl
  | decMhl
  | scf
  | addHlSp
  | ldAMhld
  | decSp
  | incA
  | decA
  | ccf
  | ldBB
  | ldBC
  | ldBD
  | ldBE
  | ldBH
  | ldBL
  | ldBMhl
  | ldBA
  | ldCB
  | ldCC
  | ldCD
  | ldCE
  | ldCH
  | ldCL
  | ldCMhl
  | ldCA
  | ldDB
  | ldDC
  | ldDD
  | ldDE
  | ldDH
  | ldDL
  | ldDMhl
  | ldDA
  | ldEB
  | ldEC
  | ldED
  | ldEE
  | ldEH
  | ldEL
  | ldEMhl
  | ldEA
  | ldHB
  | ldHC
  | ldHD
  | ldHE
  | ldHH
  | ldHL
  | ldHMhl
  | ldHA
  | ldLB
  | ldLC
  | ldLD
  | ldLE
  | ldLH
  | ldLL
  | ldLMhl
  | ldLA
  | ldMhlB
  | ldMhlC
  | ldMhlD
  | ldMhlE
  | ldMhlH
  | ldMhlL
  | halt
  | ldMhlA
  | ldAB
  | ldAC
  | ldAD
  | ldAE
  | ldAH
  | ldAL
  | ldAMhl
  | ldAA
  | addAB
  | addAC
  | addAD
  | addAE
  | addAH
  | addAL
  | addAMhl
  | addAA
  | adcAB
  | adcAC
  | adcAD
  | adcAE
  | adcAH
  | adcAL
  | adcAMhl
  | adcAA
  | subB
  | subC
  | subD
  | subE
  | subH
  | subL
  | subMhl
  | subA
  | sbcAB
  | sbcAC
  | sbcAD
  | sbcAE
  | sbcAH
  | sbcAL
  | sbcAMhl
  | sbcAA
  | andB
  | andC
  | andD
  | andE
  | andH
  | andL
  | andMhl
  | andA
  | xorB
  | xorC
  | xorD
  | xorE
  | xorH
  | xorL
  | xorMhl
  | xorA
  | orB
  | orC
  | orD
  | orE
  | orH
  | orL
  | orMhl
  | orA
  | cpB
  | cpC
  | cpD
  | cpE
  | cpH
  | cpL
  | cpMhl
  | cpA
  | retNz
  | popBc
  | pushBc
  | rst00
  | retZ
  | ret
  | cbPrefix
  | rst08
  | retNc
  | popDe
  | noEntryD3
  | pushDe
  | rst10
  | retC
  | reti
  | noEntryDB
  | noEntryDD
  | rst18
  | popHl
  | ldMcA
  | noEntryE3
  | noEntryE4
  | pushHl
  | rst20
  | jpHl
  | noEntryEB
  | noEntryEC
  | noEntryED
  | rst28
  | popAf
  | ldAMc
  | di
  | noEntryF4
  | pushAf
  | rst30
  | ldSpHl
  | ei
  | noEntryFC
  | noEntryFD
  | rst38
  | rlcB
  | rlcC
  | rlcD
  | rlcE
  | rlcH
  | rlcL
  | rlcMhl
  | rlcA
  | rrcB
  | rrcC
  | rrcD
  | rrcE
  | rrcH
  | rrcL
  | rrcMhl
  | rrcA
  | rlB
  | rlC
  | rlD
  | rlE
  | rlH
  | rlL
  | rlMhl
  | rlA
  | rrB
  | rrC
  | rrD
  | rrE
  | rrH
  | rrL
  | rrMhl
  | rrA
  | slaB
  | slaC
  | slaD
  | slaE
  | slaH
  | slaL
  | slaMhl
  | slaA
  | sraB
  | sraC
  | sraD
  | sraE
  | sraH
  | sraL
  | sraMhl
  | sraA
  | swapB
  | swapC
  | swapD
  | swapE
  | swapH
  | swapL
  | swapMhl
  | swapA
  | srlB
  | srlC
  | srlD
  | srlE
  | srlH
  | srlL
  | srlMhl
  | srlA
  | bit0B
  | bit0C
  | bit0D
  | bit0E
  | bit0H
  | bit0L
  | bit0Mhl
  | bit0A
  | bit1B
  | bit1C
  | bit1D
  | bit1E
  | bit1H
  | bit1L
  | bit1Mhl
  | bit1A
  | bit2B
  | bit2C
  | bit2D
  | bit2E
  | bit2H
  | bit2L
  | bit2Mhl
  | bit2A
  | bit3B
  | bit3C
  | bit3D
  | bit3E
  | bit3H
  | bit3L
  | bit3Mhl
  | bit3A
  | bit4B
  | bit4C
  | bit4D
  | bit4E
  | bit4H
  | bit4L
  | bit4Mhl
  | bit4A
  | bit5B
  | bit5C
  | bit5D
  | bit5E
  | bit5H
  | bit5L
  | bit5Mhl
  | bit5A
  | bit6B
  | bit6C
  | bit6D
  | bit6E
  | bit6H
  | bit6L
  | bit6Mhl
  | bit6A
  | bit7B
  | bit7C
  | bit7D
  | bit7E
  | bit7H
  | bit7L
  | bit7Mhl
  | bit7A
  | res0B
  | res0C
  | res0D
  | res0E
  | res0H
  | res0L
  | res0Mhl
  | res0A
  | res1B
  | res1C
  | res1D
  | res1E
  | res1H
  | res1L
  | res1Mhl
  | res1A
  | res2B
  | res2C
  | res2D
  | res2E
  | res2H
  | res2L
  | res2Mhl
  | res2A
  | res3B
  | res3C
  | res3D
  | res3E
  | res3H
  | res3L
  | res3Mhl
  | res3A
  | res4B
  | res4C
  | res4D
  | res4E
  | res4H
  | res4L
  | res4Mhl
  | res4A
  | res5B
  | res5C
  | res5D
  | res5E
  | res5H
  | res5L
  | res5Mhl
  | res5A
  | res6B
  | res6C
  | res6D
  | res6E
  | res6H
  | res6L
  | res6Mhl
  | res6A
  | res7B
  | res7C
  | res7D
  | res7E
  | res7H
  | res7L
  | res7Mhl
  | res7A
  | set0B
  | set0C
  | set0D
  | set0E
  | set0H
  | set0L
  | set0Mhl
  | set0A
  | set1B
  | set1C
  | set1D
  | set1E
  | set1H
  | set1L
  | set1Mhl
  | set1A
  | set2B
  | set2C
  | set2D
  | set2E
  | set2H
  | set2L
  | set2Mhl
  | set2A
  | set3B
  | set3C
  | set3D
  | set3E
  | set3H
  | set3L
  | set3Mhl
  | set3A
  | set4B
  | set4C
  | set4D
  | set4E
  | set4H
  | set4L
  | set4Mhl
  | set4A
  | set5B
  | set5C
  | set5D
  | set5E
  | set5H
  | set5L
  | set5Mhl
  | set5A
  | set6B
  | set6C
  | set6D
  | set6E
  | set6H
  | set6L
  | set6Mhl
  | set6A
  | set7B
  | set7C
  | set7D
  | set7E
  | set7H
  | set7L
  | set7Mhl
  | set7A
deriving DecidableEq, Repr

end Sys2Proof
end

