-- ==== Sys2Proof/Decode.lean ====
section
/-! DEFINITION. The decoder (30_encoding.md R300 to R322), total on any bytes, then the encoder, and the operand
families that name a constructor by its fields. The decoder reads the two 16-column maps of R315 and R316 row by
row. -/

namespace Sys2Proof

/-- An entry of the primary table (R325): what it needs after the opcode byte. -/
inductive Entry where
  /-- no immediate (format P0; the eleven opcodes of R317 too) -/
  | p0 (i : Instr)
  /-- one immediate byte (format P1) -/
  | p1 (f : Byte → Instr)
  /-- two immediate bytes, assembled little-endian (format P2, R306) -/
  | p2 (f : Word → Instr)
  /-- the entry 0xCB: the next byte selects from the CB table (R706) -/
  | cb

/-- Row 0x of the primary map (R315). -/
def mainRow0 : List Entry :=
  [.p0 .nop, .p2 .ldBcD16, .p0 .ldMbcA, .p0 .incBc, .p0 .incB, .p0 .decB, .p1 .ldBD8, .p0 .rlca,
   .p2 .ldMa16Sp, .p0 .addHlBc, .p0 .ldAMbc, .p0 .decBc, .p0 .incC, .p0 .decC, .p1 .ldCD8, .p0 .rrca]

/-- Row 1x of the primary map (R315). -/
def mainRow1 : List Entry :=
  [.p1 .stop, .p2 .ldDeD16, .p0 .ldMdeA, .p0 .incDe, .p0 .incD, .p0 .decD, .p1 .ldDD8, .p0 .rla,
   .p1 .jrE8, .p0 .addHlDe, .p0 .ldAMde, .p0 .decDe, .p0 .incE, .p0 .decE, .p1 .ldED8, .p0 .rra]

/-- Row 2x of the primary map (R315). -/
def mainRow2 : List Entry :=
  [.p1 .jrNzE8, .p2 .ldHlD16, .p0 .ldMhliA, .p0 .incHl, .p0 .incH, .p0 .decH, .p1 .ldHD8, .p0 .daa,
   .p1 .jrZE8, .p0 .addHlHl, .p0 .ldAMhli, .p0 .decHl, .p0 .incL, .p0 .decL, .p1 .ldLD8, .p0 .cpl]

/-- Row 3x of the primary map (R315). -/
def mainRow3 : List Entry :=
  [.p1 .jrNcE8, .p2 .ldSpD16, .p0 .ldMhldA, .p0 .incSp, .p0 .incMhl, .p0 .decMhl, .p1 .ldMhlD8, .p0 .scf,
   .p1 .jrCE8, .p0 .addHlSp, .p0 .ldAMhld, .p0 .decSp, .p0 .incA, .p0 .decA, .p1 .ldAD8, .p0 .ccf]

/-- Row 4x of the primary map (R315). -/
def mainRow4 : List Entry :=
  [.p0 .ldBB, .p0 .ldBC, .p0 .ldBD, .p0 .ldBE, .p0 .ldBH, .p0 .ldBL, .p0 .ldBMhl, .p0 .ldBA,
   .p0 .ldCB, .p0 .ldCC, .p0 .ldCD, .p0 .ldCE, .p0 .ldCH, .p0 .ldCL, .p0 .ldCMhl, .p0 .ldCA]

/-- Row 5x of the primary map (R315). -/
def mainRow5 : List Entry :=
  [.p0 .ldDB, .p0 .ldDC, .p0 .ldDD, .p0 .ldDE, .p0 .ldDH, .p0 .ldDL, .p0 .ldDMhl, .p0 .ldDA,
   .p0 .ldEB, .p0 .ldEC, .p0 .ldED, .p0 .ldEE, .p0 .ldEH, .p0 .ldEL, .p0 .ldEMhl, .p0 .ldEA]

/-- Row 6x of the primary map (R315). -/
def mainRow6 : List Entry :=
  [.p0 .ldHB, .p0 .ldHC, .p0 .ldHD, .p0 .ldHE, .p0 .ldHH, .p0 .ldHL, .p0 .ldHMhl, .p0 .ldHA,
   .p0 .ldLB, .p0 .ldLC, .p0 .ldLD, .p0 .ldLE, .p0 .ldLH, .p0 .ldLL, .p0 .ldLMhl, .p0 .ldLA]

/-- Row 7x of the primary map (R315). -/
def mainRow7 : List Entry :=
  [.p0 .ldMhlB, .p0 .ldMhlC, .p0 .ldMhlD, .p0 .ldMhlE, .p0 .ldMhlH, .p0 .ldMhlL, .p0 .halt, .p0 .ldMhlA,
   .p0 .ldAB, .p0 .ldAC, .p0 .ldAD, .p0 .ldAE, .p0 .ldAH, .p0 .ldAL, .p0 .ldAMhl, .p0 .ldAA]

/-- Row 8x of the primary map (R315). -/
def mainRow8 : List Entry :=
  [.p0 .addAB, .p0 .addAC, .p0 .addAD, .p0 .addAE, .p0 .addAH, .p0 .addAL, .p0 .addAMhl, .p0 .addAA,
   .p0 .adcAB, .p0 .adcAC, .p0 .adcAD, .p0 .adcAE, .p0 .adcAH, .p0 .adcAL, .p0 .adcAMhl, .p0 .adcAA]

/-- Row 9x of the primary map (R315). -/
def mainRow9 : List Entry :=
  [.p0 .subB, .p0 .subC, .p0 .subD, .p0 .subE, .p0 .subH, .p0 .subL, .p0 .subMhl, .p0 .subA,
   .p0 .sbcAB, .p0 .sbcAC, .p0 .sbcAD, .p0 .sbcAE, .p0 .sbcAH, .p0 .sbcAL, .p0 .sbcAMhl, .p0 .sbcAA]

/-- Row Ax of the primary map (R315). -/
def mainRowA : List Entry :=
  [.p0 .andB, .p0 .andC, .p0 .andD, .p0 .andE, .p0 .andH, .p0 .andL, .p0 .andMhl, .p0 .andA,
   .p0 .xorB, .p0 .xorC, .p0 .xorD, .p0 .xorE, .p0 .xorH, .p0 .xorL, .p0 .xorMhl, .p0 .xorA]

/-- Row Bx of the primary map (R315). -/
def mainRowB : List Entry :=
  [.p0 .orB, .p0 .orC, .p0 .orD, .p0 .orE, .p0 .orH, .p0 .orL, .p0 .orMhl, .p0 .orA,
   .p0 .cpB, .p0 .cpC, .p0 .cpD, .p0 .cpE, .p0 .cpH, .p0 .cpL, .p0 .cpMhl, .p0 .cpA]

/-- Row Cx of the primary map (R315). -/
def mainRowC : List Entry :=
  [.p0 .retNz, .p0 .popBc, .p2 .jpNzA16, .p2 .jpA16, .p2 .callNzA16, .p0 .pushBc, .p1 .addAD8, .p0 .rst00,
   .p0 .retZ, .p0 .ret, .p2 .jpZA16, .cb, .p2 .callZA16, .p2 .callA16, .p1 .adcAD8, .p0 .rst08]

/-- Row Dx of the primary map (R315). -/
def mainRowD : List Entry :=
  [.p0 .retNc, .p0 .popDe, .p2 .jpNcA16, .p0 .noEntryD3, .p2 .callNcA16, .p0 .pushDe, .p1 .subD8, .p0 .rst10,
   .p0 .retC, .p0 .reti, .p2 .jpCA16, .p0 .noEntryDB, .p2 .callCA16, .p0 .noEntryDD, .p1 .sbcAD8, .p0 .rst18]

/-- Row Ex of the primary map (R315). -/
def mainRowE : List Entry :=
  [.p1 .ldhMa8A, .p0 .popHl, .p0 .ldMcA, .p0 .noEntryE3, .p0 .noEntryE4, .p0 .pushHl, .p1 .andD8, .p0 .rst20,
   .p1 .addSpE8, .p0 .jpHl, .p2 .ldMa16A, .p0 .noEntryEB, .p0 .noEntryEC, .p0 .noEntryED, .p1 .xorD8, .p0 .rst28]

/-- Row Fx of the primary map (R315). -/
def mainRowF : List Entry :=
  [.p1 .ldhAMa8, .p0 .popAf, .p0 .ldAMc, .p0 .di, .p0 .noEntryF4, .p0 .pushAf, .p1 .orD8, .p0 .rst30,
   .p1 .ldHlSpE8, .p0 .ldSpHl, .p2 .ldAMa16, .p0 .ei, .p0 .noEntryFC, .p0 .noEntryFD, .p1 .cpD8, .p0 .rst38]

/-- The primary map (R315). -/
def mainTable : List (List Entry) :=
  [mainRow0, mainRow1, mainRow2, mainRow3, mainRow4, mainRow5, mainRow6, mainRow7] ++
  [mainRow8, mainRow9, mainRowA, mainRowB, mainRowC, mainRowD, mainRowE, mainRowF]

/-- The primary table's entry for an opcode byte. -/
def mainEntry (op : Byte) : Entry :=
  (mainTable.getD (op.toNat / 16) []).getD (op.toNat % 16) (.p0 .nop)

/-- Row 0x of the CB map (R316). -/
def cbRow0 : List Instr :=
  [.rlcB, .rlcC, .rlcD, .rlcE, .rlcH, .rlcL, .rlcMhl, .rlcA,
   .rrcB, .rrcC, .rrcD, .rrcE, .rrcH, .rrcL, .rrcMhl, .rrcA]

/-- Row 1x of the CB map (R316). -/
def cbRow1 : List Instr :=
  [.rlB, .rlC, .rlD, .rlE, .rlH, .rlL, .rlMhl, .rlA,
   .rrB, .rrC, .rrD, .rrE, .rrH, .rrL, .rrMhl, .rrA]

/-- Row 2x of the CB map (R316). -/
def cbRow2 : List Instr :=
  [.slaB, .slaC, .slaD, .slaE, .slaH, .slaL, .slaMhl, .slaA,
   .sraB, .sraC, .sraD, .sraE, .sraH, .sraL, .sraMhl, .sraA]

/-- Row 3x of the CB map (R316). -/
def cbRow3 : List Instr :=
  [.swapB, .swapC, .swapD, .swapE, .swapH, .swapL, .swapMhl, .swapA,
   .srlB, .srlC, .srlD, .srlE, .srlH, .srlL, .srlMhl, .srlA]

/-- Row 4x of the CB map (R316). -/
def cbRow4 : List Instr :=
  [.bit0B, .bit0C, .bit0D, .bit0E, .bit0H, .bit0L, .bit0Mhl, .bit0A,
   .bit1B, .bit1C, .bit1D, .bit1E, .bit1H, .bit1L, .bit1Mhl, .bit1A]

/-- Row 5x of the CB map (R316). -/
def cbRow5 : List Instr :=
  [.bit2B, .bit2C, .bit2D, .bit2E, .bit2H, .bit2L, .bit2Mhl, .bit2A,
   .bit3B, .bit3C, .bit3D, .bit3E, .bit3H, .bit3L, .bit3Mhl, .bit3A]

/-- Row 6x of the CB map (R316). -/
def cbRow6 : List Instr :=
  [.bit4B, .bit4C, .bit4D, .bit4E, .bit4H, .bit4L, .bit4Mhl, .bit4A,
   .bit5B, .bit5C, .bit5D, .bit5E, .bit5H, .bit5L, .bit5Mhl, .bit5A]

/-- Row 7x of the CB map (R316). -/
def cbRow7 : List Instr :=
  [.bit6B, .bit6C, .bit6D, .bit6E, .bit6H, .bit6L, .bit6Mhl, .bit6A,
   .bit7B, .bit7C, .bit7D, .bit7E, .bit7H, .bit7L, .bit7Mhl, .bit7A]

/-- Row 8x of the CB map (R316). -/
def cbRow8 : List Instr :=
  [.res0B, .res0C, .res0D, .res0E, .res0H, .res0L, .res0Mhl, .res0A,
   .res1B, .res1C, .res1D, .res1E, .res1H, .res1L, .res1Mhl, .res1A]

/-- Row 9x of the CB map (R316). -/
def cbRow9 : List Instr :=
  [.res2B, .res2C, .res2D, .res2E, .res2H, .res2L, .res2Mhl, .res2A,
   .res3B, .res3C, .res3D, .res3E, .res3H, .res3L, .res3Mhl, .res3A]

/-- Row Ax of the CB map (R316). -/
def cbRowA : List Instr :=
  [.res4B, .res4C, .res4D, .res4E, .res4H, .res4L, .res4Mhl, .res4A,
   .res5B, .res5C, .res5D, .res5E, .res5H, .res5L, .res5Mhl, .res5A]

/-- Row Bx of the CB map (R316). -/
def cbRowB : List Instr :=
  [.res6B, .res6C, .res6D, .res6E, .res6H, .res6L, .res6Mhl, .res6A,
   .res7B, .res7C, .res7D, .res7E, .res7H, .res7L, .res7Mhl, .res7A]

/-- Row Cx of the CB map (R316). -/
def cbRowC : List Instr :=
  [.set0B, .set0C, .set0D, .set0E, .set0H, .set0L, .set0Mhl, .set0A,
   .set1B, .set1C, .set1D, .set1E, .set1H, .set1L, .set1Mhl, .set1A]

/-- Row Dx of the CB map (R316). -/
def cbRowD : List Instr :=
  [.set2B, .set2C, .set2D, .set2E, .set2H, .set2L, .set2Mhl, .set2A,
   .set3B, .set3C, .set3D, .set3E, .set3H, .set3L, .set3Mhl, .set3A]

/-- Row Ex of the CB map (R316). -/
def cbRowE : List Instr :=
  [.set4B, .set4C, .set4D, .set4E, .set4H, .set4L, .set4Mhl, .set4A,
   .set5B, .set5C, .set5D, .set5E, .set5H, .set5L, .set5Mhl, .set5A]

/-- Row Fx of the CB map (R316). -/
def cbRowF : List Instr :=
  [.set6B, .set6C, .set6D, .set6E, .set6H, .set6L, .set6Mhl, .set6A,
   .set7B, .set7C, .set7D, .set7E, .set7H, .set7L, .set7Mhl, .set7A]

/-- The CB map (R316). -/
def cbTable : List (List Instr) :=
  [cbRow0, cbRow1, cbRow2, cbRow3, cbRow4, cbRow5, cbRow6, cbRow7] ++
  [cbRow8, cbRow9, cbRowA, cbRowB, cbRowC, cbRowD, cbRowE, cbRowF]

/-- The CB table's entry for the byte after 0xCB. -/
def cbEntry (op2 : Byte) : Instr :=
  (cbTable.getD (op2.toNat / 16) []).getD (op2.toNat % 16) .nop

/-- Why a list of bytes holds no instruction: the engine never meets one (it fetches every byte an entry asks for). -/
inductive Reject where
  /-- no byte at all -/
  | empty
  /-- the immediates of this opcode are missing -/
  | truncated (op : Byte)
deriving DecidableEq, Repr

/-- The instruction at the head of a list of bytes, and the bytes after it. An opcode without a table entry decodes
to its own constructor, whose meaning raises DecodeError (R317, R801). The byte 0xCB with no byte after it is the
primary table's own entry, the prefix marker (R706, notes/assumptions/10.md). -/
def decode (bytes : List Byte) : Except Reject (Instr × List Byte) :=
  match bytes with
  | [] => .error .empty
  | op :: rest =>
    match mainEntry op with
    | .p0 i => .ok (i, rest)
    | .p1 f =>
      match rest with
      | n :: rest' => .ok (f n, rest')
      | [] => .error (.truncated op)
    | .p2 f =>
      match rest with
      | lo :: hi :: rest' => .ok (f (joinBytes hi lo), rest')
      | _ => .error (.truncated op)
    | .cb =>
      match rest with
      | op2 :: rest' => .ok (cbEntry op2, rest')
      | [] => .ok (.cbPrefix, [])

/-! The encoder -/

/-- The opcode of an instruction: the byte of the primary table, or `0xCB00 | op2` (the `match` column of
spec/opcode_table.json). -/
def opcode : Instr → Nat
  | .nop => 0x00
  | .ldBcD16 _ => 0x01
  | .ldMbcA => 0x02
  | .incBc => 0x03
  | .incB => 0x04
  | .decB => 0x05
  | .ldBD8 _ => 0x06
  | .rlca => 0x07
  | .ldMa16Sp _ => 0x08
  | .addHlBc => 0x09
  | .ldAMbc => 0x0A
  | .decBc => 0x0B
  | .incC => 0x0C
  | .decC => 0x0D
  | .ldCD8 _ => 0x0E
  | .rrca => 0x0F
  | .stop _ => 0x10
  | .ldDeD16 _ => 0x11
  | .ldMdeA => 0x12
  | .incDe => 0x13
  | .incD => 0x14
  | .decD => 0x15
  | .ldDD8 _ => 0x16
  | .rla => 0x17
  | .jrE8 _ => 0x18
  | .addHlDe => 0x19
  | .ldAMde => 0x1A
  | .decDe => 0x1B
  | .incE => 0x1C
  | .decE => 0x1D
  | .ldED8 _ => 0x1E
  | .rra => 0x1F
  | .jrNzE8 _ => 0x20
  | .ldHlD16 _ => 0x21
  | .ldMhliA => 0x22
  | .incHl => 0x23
  | .incH => 0x24
  | .decH => 0x25
  | .ldHD8 _ => 0x26
  | .daa => 0x27
  | .jrZE8 _ => 0x28
  | .addHlHl => 0x29
  | .ldAMhli => 0x2A
  | .decHl => 0x2B
  | .incL => 0x2C
  | .decL => 0x2D
  | .ldLD8 _ => 0x2E
  | .cpl => 0x2F
  | .jrNcE8 _ => 0x30
  | .ldSpD16 _ => 0x31
  | .ldMhldA => 0x32
  | .incSp => 0x33
  | .incMhl => 0x34
  | .decMhl => 0x35
  | .ldMhlD8 _ => 0x36
  | .scf => 0x37
  | .jrCE8 _ => 0x38
  | .addHlSp => 0x39
  | .ldAMhld => 0x3A
  | .decSp => 0x3B
  | .incA => 0x3C
  | .decA => 0x3D
  | .ldAD8 _ => 0x3E
  | .ccf => 0x3F
  | .ldBB => 0x40
  | .ldBC => 0x41
  | .ldBD => 0x42
  | .ldBE => 0x43
  | .ldBH => 0x44
  | .ldBL => 0x45
  | .ldBMhl => 0x46
  | .ldBA => 0x47
  | .ldCB => 0x48
  | .ldCC => 0x49
  | .ldCD => 0x4A
  | .ldCE => 0x4B
  | .ldCH => 0x4C
  | .ldCL => 0x4D
  | .ldCMhl => 0x4E
  | .ldCA => 0x4F
  | .ldDB => 0x50
  | .ldDC => 0x51
  | .ldDD => 0x52
  | .ldDE => 0x53
  | .ldDH => 0x54
  | .ldDL => 0x55
  | .ldDMhl => 0x56
  | .ldDA => 0x57
  | .ldEB => 0x58
  | .ldEC => 0x59
  | .ldED => 0x5A
  | .ldEE => 0x5B
  | .ldEH => 0x5C
  | .ldEL => 0x5D
  | .ldEMhl => 0x5E
  | .ldEA => 0x5F
  | .ldHB => 0x60
  | .ldHC => 0x61
  | .ldHD => 0x62
  | .ldHE => 0x63
  | .ldHH => 0x64
  | .ldHL => 0x65
  | .ldHMhl => 0x66
  | .ldHA => 0x67
  | .ldLB => 0x68
  | .ldLC => 0x69
  | .ldLD => 0x6A
  | .ldLE => 0x6B
  | .ldLH => 0x6C
  | .ldLL => 0x6D
  | .ldLMhl => 0x6E
  | .ldLA => 0x6F
  | .ldMhlB => 0x70
  | .ldMhlC => 0x71
  | .ldMhlD => 0x72
  | .ldMhlE => 0x73
  | .ldMhlH => 0x74
  | .ldMhlL => 0x75
  | .halt => 0x76
  | .ldMhlA => 0x77
  | .ldAB => 0x78
  | .ldAC => 0x79
  | .ldAD => 0x7A
  | .ldAE => 0x7B
  | .ldAH => 0x7C
  | .ldAL => 0x7D
  | .ldAMhl => 0x7E
  | .ldAA => 0x7F
  | .addAB => 0x80
  | .addAC => 0x81
  | .addAD => 0x82
  | .addAE => 0x83
  | .addAH => 0x84
  | .addAL => 0x85
  | .addAMhl => 0x86
  | .addAA => 0x87
  | .adcAB => 0x88
  | .adcAC => 0x89
  | .adcAD => 0x8A
  | .adcAE => 0x8B
  | .adcAH => 0x8C
  | .adcAL => 0x8D
  | .adcAMhl => 0x8E
  | .adcAA => 0x8F
  | .subB => 0x90
  | .subC => 0x91
  | .subD => 0x92
  | .subE => 0x93
  | .subH => 0x94
  | .subL => 0x95
  | .subMhl => 0x96
  | .subA => 0x97
  | .sbcAB => 0x98
  | .sbcAC => 0x99
  | .sbcAD => 0x9A
  | .sbcAE => 0x9B
  | .sbcAH => 0x9C
  | .sbcAL => 0x9D
  | .sbcAMhl => 0x9E
  | .sbcAA => 0x9F
  | .andB => 0xA0
  | .andC => 0xA1
  | .andD => 0xA2
  | .andE => 0xA3
  | .andH => 0xA4
  | .andL => 0xA5
  | .andMhl => 0xA6
  | .andA => 0xA7
  | .xorB => 0xA8
  | .xorC => 0xA9
  | .xorD => 0xAA
  | .xorE => 0xAB
  | .xorH => 0xAC
  | .xorL => 0xAD
  | .xorMhl => 0xAE
  | .xorA => 0xAF
  | .orB => 0xB0
  | .orC => 0xB1
  | .orD => 0xB2
  | .orE => 0xB3
  | .orH => 0xB4
  | .orL => 0xB5
  | .orMhl => 0xB6
  | .orA => 0xB7
  | .cpB => 0xB8
  | .cpC => 0xB9
  | .cpD => 0xBA
  | .cpE => 0xBB
  | .cpH => 0xBC
  | .cpL => 0xBD
  | .cpMhl => 0xBE
  | .cpA => 0xBF
  | .retNz => 0xC0
  | .popBc => 0xC1
  | .jpNzA16 _ => 0xC2
  | .jpA16 _ => 0xC3
  | .callNzA16 _ => 0xC4
  | .pushBc => 0xC5
  | .addAD8 _ => 0xC6
  | .rst00 => 0xC7
  | .retZ => 0xC8
  | .ret => 0xC9
  | .jpZA16 _ => 0xCA
  | .cbPrefix => 0xCB
  | .callZA16 _ => 0xCC
  | .callA16 _ => 0xCD
  | .adcAD8 _ => 0xCE
  | .rst08 => 0xCF
  | .retNc => 0xD0
  | .popDe => 0xD1
  | .jpNcA16 _ => 0xD2
  | .noEntryD3 => 0xD3
  | .callNcA16 _ => 0xD4
  | .pushDe => 0xD5
  | .subD8 _ => 0xD6
  | .rst10 => 0xD7
  | .retC => 0xD8
  | .reti => 0xD9
  | .jpCA16 _ => 0xDA
  | .noEntryDB => 0xDB
  | .callCA16 _ => 0xDC
  | .noEntryDD => 0xDD
  | .sbcAD8 _ => 0xDE
  | .rst18 => 0xDF
  | .ldhMa8A _ => 0xE0
  | .popHl => 0xE1
  | .ldMcA => 0xE2
  | .noEntryE3 => 0xE3
  | .noEntryE4 => 0xE4
  | .pushHl => 0xE5
  | .andD8 _ => 0xE6
  | .rst20 => 0xE7
  | .addSpE8 _ => 0xE8
  | .jpHl => 0xE9
  | .ldMa16A _ => 0xEA
  | .noEntryEB => 0xEB
  | .noEntryEC => 0xEC
  | .noEntryED => 0xED
  | .xorD8 _ => 0xEE
  | .rst28 => 0xEF
  | .ldhAMa8 _ => 0xF0
  | .popAf => 0xF1
  | .ldAMc => 0xF2
  | .di => 0xF3
  | .noEntryF4 => 0xF4
  | .pushAf => 0xF5
  | .orD8 _ => 0xF6
  | .rst30 => 0xF7
  | .ldHlSpE8 _ => 0xF8
  | .ldSpHl => 0xF9
  | .ldAMa16 _ => 0xFA
  | .ei => 0xFB
  | .noEntryFC => 0xFC
  | .noEntryFD => 0xFD
  | .cpD8 _ => 0xFE
  | .rst38 => 0xFF
  | .rlcB => 0xCB00
  | .rlcC => 0xCB01
  | .rlcD => 0xCB02
  | .rlcE => 0xCB03
  | .rlcH => 0xCB04
  | .rlcL => 0xCB05
  | .rlcMhl => 0xCB06
  | .rlcA => 0xCB07
  | .rrcB => 0xCB08
  | .rrcC => 0xCB09
  | .rrcD => 0xCB0A
  | .rrcE => 0xCB0B
  | .rrcH => 0xCB0C
  | .rrcL => 0xCB0D
  | .rrcMhl => 0xCB0E
  | .rrcA => 0xCB0F
  | .rlB => 0xCB10
  | .rlC => 0xCB11
  | .rlD => 0xCB12
  | .rlE => 0xCB13
  | .rlH => 0xCB14
  | .rlL => 0xCB15
  | .rlMhl => 0xCB16
  | .rlA => 0xCB17
  | .rrB => 0xCB18
  | .rrC => 0xCB19
  | .rrD => 0xCB1A
  | .rrE => 0xCB1B
  | .rrH => 0xCB1C
  | .rrL => 0xCB1D
  | .rrMhl => 0xCB1E
  | .rrA => 0xCB1F
  | .slaB => 0xCB20
  | .slaC => 0xCB21
  | .slaD => 0xCB22
  | .slaE => 0xCB23
  | .slaH => 0xCB24
  | .slaL => 0xCB25
  | .slaMhl => 0xCB26
  | .slaA => 0xCB27
  | .sraB => 0xCB28
  | .sraC => 0xCB29
  | .sraD => 0xCB2A
  | .sraE => 0xCB2B
  | .sraH => 0xCB2C
  | .sraL => 0xCB2D
  | .sraMhl => 0xCB2E
  | .sraA => 0xCB2F
  | .swapB => 0xCB30
  | .swapC => 0xCB31
  | .swapD => 0xCB32
  | .swapE => 0xCB33
  | .swapH => 0xCB34
  | .swapL => 0xCB35
  | .swapMhl => 0xCB36
  | .swapA => 0xCB37
  | .srlB => 0xCB38
  | .srlC => 0xCB39
  | .srlD => 0xCB3A
  | .srlE => 0xCB3B
  | .srlH => 0xCB3C
  | .srlL => 0xCB3D
  | .srlMhl => 0xCB3E
  | .srlA => 0xCB3F
  | .bit0B => 0xCB40
  | .bit0C => 0xCB41
  | .bit0D => 0xCB42
  | .bit0E => 0xCB43
  | .bit0H => 0xCB44
  | .bit0L => 0xCB45
  | .bit0Mhl => 0xCB46
  | .bit0A => 0xCB47
  | .bit1B => 0xCB48
  | .bit1C => 0xCB49
  | .bit1D => 0xCB4A
  | .bit1E => 0xCB4B
  | .bit1H => 0xCB4C
  | .bit1L => 0xCB4D
  | .bit1Mhl => 0xCB4E
  | .bit1A => 0xCB4F
  | .bit2B => 0xCB50
  | .bit2C => 0xCB51
  | .bit2D => 0xCB52
  | .bit2E => 0xCB53
  | .bit2H => 0xCB54
  | .bit2L => 0xCB55
  | .bit2Mhl => 0xCB56
  | .bit2A => 0xCB57
  | .bit3B => 0xCB58
  | .bit3C => 0xCB59
  | .bit3D => 0xCB5A
  | .bit3E => 0xCB5B
  | .bit3H => 0xCB5C
  | .bit3L => 0xCB5D
  | .bit3Mhl => 0xCB5E
  | .bit3A => 0xCB5F
  | .bit4B => 0xCB60
  | .bit4C => 0xCB61
  | .bit4D => 0xCB62
  | .bit4E => 0xCB63
  | .bit4H => 0xCB64
  | .bit4L => 0xCB65
  | .bit4Mhl => 0xCB66
  | .bit4A => 0xCB67
  | .bit5B => 0xCB68
  | .bit5C => 0xCB69
  | .bit5D => 0xCB6A
  | .bit5E => 0xCB6B
  | .bit5H => 0xCB6C
  | .bit5L => 0xCB6D
  | .bit5Mhl => 0xCB6E
  | .bit5A => 0xCB6F
  | .bit6B => 0xCB70
  | .bit6C => 0xCB71
  | .bit6D => 0xCB72
  | .bit6E => 0xCB73
  | .bit6H => 0xCB74
  | .bit6L => 0xCB75
  | .bit6Mhl => 0xCB76
  | .bit6A => 0xCB77
  | .bit7B => 0xCB78
  | .bit7C => 0xCB79
  | .bit7D => 0xCB7A
  | .bit7E => 0xCB7B
  | .bit7H => 0xCB7C
  | .bit7L => 0xCB7D
  | .bit7Mhl => 0xCB7E
  | .bit7A => 0xCB7F
  | .res0B => 0xCB80
  | .res0C => 0xCB81
  | .res0D => 0xCB82
  | .res0E => 0xCB83
  | .res0H => 0xCB84
  | .res0L => 0xCB85
  | .res0Mhl => 0xCB86
  | .res0A => 0xCB87
  | .res1B => 0xCB88
  | .res1C => 0xCB89
  | .res1D => 0xCB8A
  | .res1E => 0xCB8B
  | .res1H => 0xCB8C
  | .res1L => 0xCB8D
  | .res1Mhl => 0xCB8E
  | .res1A => 0xCB8F
  | .res2B => 0xCB90
  | .res2C => 0xCB91
  | .res2D => 0xCB92
  | .res2E => 0xCB93
  | .res2H => 0xCB94
  | .res2L => 0xCB95
  | .res2Mhl => 0xCB96
  | .res2A => 0xCB97
  | .res3B => 0xCB98
  | .res3C => 0xCB99
  | .res3D => 0xCB9A
  | .res3E => 0xCB9B
  | .res3H => 0xCB9C
  | .res3L => 0xCB9D
  | .res3Mhl => 0xCB9E
  | .res3A => 0xCB9F
  | .res4B => 0xCBA0
  | .res4C => 0xCBA1
  | .res4D => 0xCBA2
  | .res4E => 0xCBA3
  | .res4H => 0xCBA4
  | .res4L => 0xCBA5
  | .res4Mhl => 0xCBA6
  | .res4A => 0xCBA7
  | .res5B => 0xCBA8
  | .res5C => 0xCBA9
  | .res5D => 0xCBAA
  | .res5E => 0xCBAB
  | .res5H => 0xCBAC
  | .res5L => 0xCBAD
  | .res5Mhl => 0xCBAE
  | .res5A => 0xCBAF
  | .res6B => 0xCBB0
  | .res6C => 0xCBB1
  | .res6D => 0xCBB2
  | .res6E => 0xCBB3
  | .res6H => 0xCBB4
  | .res6L => 0xCBB5
  | .res6Mhl => 0xCBB6
  | .res6A => 0xCBB7
  | .res7B => 0xCBB8
  | .res7C => 0xCBB9
  | .res7D => 0xCBBA
  | .res7E => 0xCBBB
  | .res7H => 0xCBBC
  | .res7L => 0xCBBD
  | .res7Mhl => 0xCBBE
  | .res7A => 0xCBBF
  | .set0B => 0xCBC0
  | .set0C => 0xCBC1
  | .set0D => 0xCBC2
  | .set0E => 0xCBC3
  | .set0H => 0xCBC4
  | .set0L => 0xCBC5
  | .set0Mhl => 0xCBC6
  | .set0A => 0xCBC7
  | .set1B => 0xCBC8
  | .set1C => 0xCBC9
  | .set1D => 0xCBCA
  | .set1E => 0xCBCB
  | .set1H => 0xCBCC
  | .set1L => 0xCBCD
  | .set1Mhl => 0xCBCE
  | .set1A => 0xCBCF
  | .set2B => 0xCBD0
  | .set2C => 0xCBD1
  | .set2D => 0xCBD2
  | .set2E => 0xCBD3
  | .set2H => 0xCBD4
  | .set2L => 0xCBD5
  | .set2Mhl => 0xCBD6
  | .set2A => 0xCBD7
  | .set3B => 0xCBD8
  | .set3C => 0xCBD9
  | .set3D => 0xCBDA
  | .set3E => 0xCBDB
  | .set3H => 0xCBDC
  | .set3L => 0xCBDD
  | .set3Mhl => 0xCBDE
  | .set3A => 0xCBDF
  | .set4B => 0xCBE0
  | .set4C => 0xCBE1
  | .set4D => 0xCBE2
  | .set4E => 0xCBE3
  | .set4H => 0xCBE4
  | .set4L => 0xCBE5
  | .set4Mhl => 0xCBE6
  | .set4A => 0xCBE7
  | .set5B => 0xCBE8
  | .set5C => 0xCBE9
  | .set5D => 0xCBEA
  | .set5E => 0xCBEB
  | .set5H => 0xCBEC
  | .set5L => 0xCBED
  | .set5Mhl => 0xCBEE
  | .set5A => 0xCBEF
  | .set6B => 0xCBF0
  | .set6C => 0xCBF1
  | .set6D => 0xCBF2
  | .set6E => 0xCBF3
  | .set6H => 0xCBF4
  | .set6L => 0xCBF5
  | .set6Mhl => 0xCBF6
  | .set6A => 0xCBF7
  | .set7B => 0xCBF8
  | .set7C => 0xCBF9
  | .set7D => 0xCBFA
  | .set7E => 0xCBFB
  | .set7H => 0xCBFC
  | .set7L => 0xCBFD
  | .set7Mhl => 0xCBFE
  | .set7A => 0xCBFF

/-- The immediate bytes of an instruction in fetch order (R305, R306). -/
def immBytes : Instr → List Byte
  | .ldBD8 n => [n]
  | .ldCD8 n => [n]
  | .stop n => [n]
  | .ldDD8 n => [n]
  | .jrE8 n => [n]
  | .ldED8 n => [n]
  | .jrNzE8 n => [n]
  | .ldHD8 n => [n]
  | .jrZE8 n => [n]
  | .ldLD8 n => [n]
  | .jrNcE8 n => [n]
  | .ldMhlD8 n => [n]
  | .jrCE8 n => [n]
  | .ldAD8 n => [n]
  | .addAD8 n => [n]
  | .adcAD8 n => [n]
  | .subD8 n => [n]
  | .sbcAD8 n => [n]
  | .ldhMa8A n => [n]
  | .andD8 n => [n]
  | .addSpE8 n => [n]
  | .xorD8 n => [n]
  | .ldhAMa8 n => [n]
  | .orD8 n => [n]
  | .ldHlSpE8 n => [n]
  | .cpD8 n => [n]
  | .ldBcD16 nn => [loByte nn, hiByte nn]
  | .ldMa16Sp nn => [loByte nn, hiByte nn]
  | .ldDeD16 nn => [loByte nn, hiByte nn]
  | .ldHlD16 nn => [loByte nn, hiByte nn]
  | .ldSpD16 nn => [loByte nn, hiByte nn]
  | .jpNzA16 nn => [loByte nn, hiByte nn]
  | .jpA16 nn => [loByte nn, hiByte nn]
  | .callNzA16 nn => [loByte nn, hiByte nn]
  | .jpZA16 nn => [loByte nn, hiByte nn]
  | .callZA16 nn => [loByte nn, hiByte nn]
  | .callA16 nn => [loByte nn, hiByte nn]
  | .jpNcA16 nn => [loByte nn, hiByte nn]
  | .callNcA16 nn => [loByte nn, hiByte nn]
  | .jpCA16 nn => [loByte nn, hiByte nn]
  | .callCA16 nn => [loByte nn, hiByte nn]
  | .ldMa16A nn => [loByte nn, hiByte nn]
  | .ldAMa16 nn => [loByte nn, hiByte nn]
  | _ => []

/-- The opcode bytes: one byte, or the prefix byte and the CB opcode (R300). -/
def opcodeBytes (op : Nat) : List Byte :=
  if op < 0x100 then [BitVec.ofNat 8 op] else [BitVec.ofNat 8 (op / 0x100), BitVec.ofNat 8 op]

/-- The bytes of an instruction. -/
def encode (i : Instr) : List Byte := opcodeBytes (opcode i) ++ immBytes i

/-! The codes of the operand fields -/

/-- The code of an 8-bit register (R310). -/
def regCode : Reg8 → Nat
  | .b => 0
  | .c => 1
  | .d => 2
  | .e => 3
  | .h => 4
  | .l => 5
  | .a => 7

/-- The code of an 8-bit operand; 6 is `(HL)` (R310). -/
def r8Code : R8 → Nat
  | .reg r => regCode r
  | .mhl => 6

/-- The code of an `rr` field (R311). -/
def rrCode : RR → Nat
  | .bc => 0
  | .de => 1
  | .hl => 2
  | .sp => 3

/-- The code of a `qq` field (R312). -/
def qqCode : QQ → Nat
  | .bc => 0
  | .de => 1
  | .hl => 2
  | .af => 3

/-- The code of a condition (R313). -/
def condCode : Cond → Nat
  | .nz => 0
  | .z => 1
  | .nc => 2
  | .c => 3

/-- The code of an ALU operation (R314). -/
def aluCode : AluOp → Nat
  | .add => 0
  | .adc => 1
  | .sub => 2
  | .sbc => 3
  | .and => 4
  | .xor => 5
  | .or => 6
  | .cp => 7

/-- The code of a rotate or shift (R314). -/
def rotCode : RotOp → Nat
  | .rlc => 0
  | .rrc => 1
  | .rl => 2
  | .rr => 3
  | .sla => 4
  | .sra => 5
  | .swap => 6
  | .srl => 7

/-- The code of a bit index (R301). -/
def bitCode : BitIx → Nat
  | .b0 => 0
  | .b1 => 1
  | .b2 => 2
  | .b3 => 3
  | .b4 => 4
  | .b5 => 5
  | .b6 => 6
  | .b7 => 7

/-- The code of a restart selector (R314). -/
def rstCode : Rst → Nat
  | .t00 => 0
  | .t08 => 1
  | .t10 => 2
  | .t18 => 3
  | .t20 => 4
  | .t28 => 5
  | .t30 => 6
  | .t38 => 7

/-! The operand families: the constructor with the given fields (R310 to R314, R321). -/

/-- `LD r,r'` (R650). -/
def Instr.ofLd : Reg8 → Reg8 → Instr
  | .b, .b => .ldBB
  | .b, .c => .ldBC
  | .b, .d => .ldBD
  | .b, .e => .ldBE
  | .b, .h => .ldBH
  | .b, .l => .ldBL
  | .b, .a => .ldBA
  | .c, .b => .ldCB
  | .c, .c => .ldCC
  | .c, .d => .ldCD
  | .c, .e => .ldCE
  | .c, .h => .ldCH
  | .c, .l => .ldCL
  | .c, .a => .ldCA
  | .d, .b => .ldDB
  | .d, .c => .ldDC
  | .d, .d => .ldDD
  | .d, .e => .ldDE
  | .d, .h => .ldDH
  | .d, .l => .ldDL
  | .d, .a => .ldDA
  | .e, .b => .ldEB
  | .e, .c => .ldEC
  | .e, .d => .ldED
  | .e, .e => .ldEE
  | .e, .h => .ldEH
  | .e, .l => .ldEL
  | .e, .a => .ldEA
  | .h, .b => .ldHB
  | .h, .c => .ldHC
  | .h, .d => .ldHD
  | .h, .e => .ldHE
  | .h, .h => .ldHH
  | .h, .l => .ldHL
  | .h, .a => .ldHA
  | .l, .b => .ldLB
  | .l, .c => .ldLC
  | .l, .d => .ldLD
  | .l, .e => .ldLE
  | .l, .h => .ldLH
  | .l, .l => .ldLL
  | .l, .a => .ldLA
  | .a, .b => .ldAB
  | .a, .c => .ldAC
  | .a, .d => .ldAD
  | .a, .e => .ldAE
  | .a, .h => .ldAH
  | .a, .l => .ldAL
  | .a, .a => .ldAA

/-- `LD r,(HL)` (R651). -/
def Instr.ofLdFromHl : Reg8 → Instr
  | .b => .ldBMhl
  | .c => .ldCMhl
  | .d => .ldDMhl
  | .e => .ldEMhl
  | .h => .ldHMhl
  | .l => .ldLMhl
  | .a => .ldAMhl

/-- `LD (HL),r` (R652). -/
def Instr.ofLdToHl : Reg8 → Instr
  | .b => .ldMhlB
  | .c => .ldMhlC
  | .d => .ldMhlD
  | .e => .ldMhlE
  | .h => .ldMhlH
  | .l => .ldMhlL
  | .a => .ldMhlA

/-- `LD r,d8` (R653). -/
def Instr.ofLdImm : Reg8 → Byte → Instr
  | .b, n => .ldBD8 n
  | .c, n => .ldCD8 n
  | .d, n => .ldDD8 n
  | .e, n => .ldED8 n
  | .h, n => .ldHD8 n
  | .l, n => .ldLD8 n
  | .a, n => .ldAD8 n

/-- `ADD A,r` to `CP r` (R400). -/
def Instr.ofAlu : AluOp → R8 → Instr
  | .add, .reg .b => .addAB
  | .add, .reg .c => .addAC
  | .add, .reg .d => .addAD
  | .add, .reg .e => .addAE
  | .add, .reg .h => .addAH
  | .add, .reg .l => .addAL
  | .add, .mhl => .addAMhl
  | .add, .reg .a => .addAA
  | .adc, .reg .b => .adcAB
  | .adc, .reg .c => .adcAC
  | .adc, .reg .d => .adcAD
  | .adc, .reg .e => .adcAE
  | .adc, .reg .h => .adcAH
  | .adc, .reg .l => .adcAL
  | .adc, .mhl => .adcAMhl
  | .adc, .reg .a => .adcAA
  | .sub, .reg .b => .subB
  | .sub, .reg .c => .subC
  | .sub, .reg .d => .subD
  | .sub, .reg .e => .subE
  | .sub, .reg .h => .subH
  | .sub, .reg .l => .subL
  | .sub, .mhl => .subMhl
  | .sub, .reg .a => .subA
  | .sbc, .reg .b => .sbcAB
  | .sbc, .reg .c => .sbcAC
  | .sbc, .reg .d => .sbcAD
  | .sbc, .reg .e => .sbcAE
  | .sbc, .reg .h => .sbcAH
  | .sbc, .reg .l => .sbcAL
  | .sbc, .mhl => .sbcAMhl
  | .sbc, .reg .a => .sbcAA
  | .and, .reg .b => .andB
  | .and, .reg .c => .andC
  | .and, .reg .d => .andD
  | .and, .reg .e => .andE
  | .and, .reg .h => .andH
  | .and, .reg .l => .andL
  | .and, .mhl => .andMhl
  | .and, .reg .a => .andA
  | .xor, .reg .b => .xorB
  | .xor, .reg .c => .xorC
  | .xor, .reg .d => .xorD
  | .xor, .reg .e => .xorE
  | .xor, .reg .h => .xorH
  | .xor, .reg .l => .xorL
  | .xor, .mhl => .xorMhl
  | .xor, .reg .a => .xorA
  | .or, .reg .b => .orB
  | .or, .reg .c => .orC
  | .or, .reg .d => .orD
  | .or, .reg .e => .orE
  | .or, .reg .h => .orH
  | .or, .reg .l => .orL
  | .or, .mhl => .orMhl
  | .or, .reg .a => .orA
  | .cp, .reg .b => .cpB
  | .cp, .reg .c => .cpC
  | .cp, .reg .d => .cpD
  | .cp, .reg .e => .cpE
  | .cp, .reg .h => .cpH
  | .cp, .reg .l => .cpL
  | .cp, .mhl => .cpMhl
  | .cp, .reg .a => .cpA

/-- `ADD A,d8` to `CP d8` (R400). -/
def Instr.ofAluImm : AluOp → Byte → Instr
  | .add, n => .addAD8 n
  | .adc, n => .adcAD8 n
  | .sub, n => .subD8 n
  | .sbc, n => .sbcAD8 n
  | .and, n => .andD8 n
  | .xor, n => .xorD8 n
  | .or, n => .orD8 n
  | .cp, n => .cpD8 n

/-- `INC r` (R410). -/
def Instr.ofInc : R8 → Instr
  | .reg .b => .incB
  | .reg .c => .incC
  | .reg .d => .incD
  | .reg .e => .incE
  | .reg .h => .incH
  | .reg .l => .incL
  | .mhl => .incMhl
  | .reg .a => .incA

/-- `DEC r` (R411). -/
def Instr.ofDec : R8 → Instr
  | .reg .b => .decB
  | .reg .c => .decC
  | .reg .d => .decD
  | .reg .e => .decE
  | .reg .h => .decH
  | .reg .l => .decL
  | .mhl => .decMhl
  | .reg .a => .decA

/-- `INC rr` (R451). -/
def Instr.ofIncRR : RR → Instr
  | .bc => .incBc
  | .de => .incDe
  | .hl => .incHl
  | .sp => .incSp

/-- `DEC rr` (R452). -/
def Instr.ofDecRR : RR → Instr
  | .bc => .decBc
  | .de => .decDe
  | .hl => .decHl
  | .sp => .decSp

/-- `ADD HL,rr` (R450). -/
def Instr.ofAddHl : RR → Instr
  | .bc => .addHlBc
  | .de => .addHlDe
  | .hl => .addHlHl
  | .sp => .addHlSp

/-- `LD rr,d16` (R669). -/
def Instr.ofLdRR : RR → Word → Instr
  | .bc, nn => .ldBcD16 nn
  | .de, nn => .ldDeD16 nn
  | .hl, nn => .ldHlD16 nn
  | .sp, nn => .ldSpD16 nn

/-- `PUSH qq` (R621). -/
def Instr.ofPush : QQ → Instr
  | .bc => .pushBc
  | .de => .pushDe
  | .hl => .pushHl
  | .af => .pushAf

/-- `POP qq` (R622). -/
def Instr.ofPop : QQ → Instr
  | .bc => .popBc
  | .de => .popDe
  | .hl => .popHl
  | .af => .popAf

/-- `JP cc,a16` (R606). -/
def Instr.ofJp : Cond → Word → Instr
  | .nz, nn => .jpNzA16 nn
  | .z, nn => .jpZA16 nn
  | .nc, nn => .jpNcA16 nn
  | .c, nn => .jpCA16 nn

/-- `JR cc,e8` (R609). -/
def Instr.ofJr : Cond → Byte → Instr
  | .nz, n => .jrNzE8 n
  | .z, n => .jrZE8 n
  | .nc, n => .jrNcE8 n
  | .c, n => .jrCE8 n

/-- `CALL cc,a16` (R611). -/
def Instr.ofCall : Cond → Word → Instr
  | .nz, nn => .callNzA16 nn
  | .z, nn => .callZA16 nn
  | .nc, nn => .callNcA16 nn
  | .c, nn => .callCA16 nn

/-- `RET cc` (R613). -/
def Instr.ofRet : Cond → Instr
  | .nz => .retNz
  | .z => .retZ
  | .nc => .retNc
  | .c => .retC

/-- `RST t` (R616). -/
def Instr.ofRst : Rst → Instr
  | .t00 => .rst00
  | .t08 => .rst08
  | .t10 => .rst10
  | .t18 => .rst18
  | .t20 => .rst20
  | .t28 => .rst28
  | .t30 => .rst30
  | .t38 => .rst38

/-- `RLC r` to `SRL r` (R504). -/
def Instr.ofRot : RotOp → R8 → Instr
  | .rlc, .reg .b => .rlcB
  | .rlc, .reg .c => .rlcC
  | .rlc, .reg .d => .rlcD
  | .rlc, .reg .e => .rlcE
  | .rlc, .reg .h => .rlcH
  | .rlc, .reg .l => .rlcL
  | .rlc, .mhl => .rlcMhl
  | .rlc, .reg .a => .rlcA
  | .rrc, .reg .b => .rrcB
  | .rrc, .reg .c => .rrcC
  | .rrc, .reg .d => .rrcD
  | .rrc, .reg .e => .rrcE
  | .rrc, .reg .h => .rrcH
  | .rrc, .reg .l => .rrcL
  | .rrc, .mhl => .rrcMhl
  | .rrc, .reg .a => .rrcA
  | .rl, .reg .b => .rlB
  | .rl, .reg .c => .rlC
  | .rl, .reg .d => .rlD
  | .rl, .reg .e => .rlE
  | .rl, .reg .h => .rlH
  | .rl, .reg .l => .rlL
  | .rl, .mhl => .rlMhl
  | .rl, .reg .a => .rlA
  | .rr, .reg .b => .rrB
  | .rr, .reg .c => .rrC
  | .rr, .reg .d => .rrD
  | .rr, .reg .e => .rrE
  | .rr, .reg .h => .rrH
  | .rr, .reg .l => .rrL
  | .rr, .mhl => .rrMhl
  | .rr, .reg .a => .rrA
  | .sla, .reg .b => .slaB
  | .sla, .reg .c => .slaC
  | .sla, .reg .d => .slaD
  | .sla, .reg .e => .slaE
  | .sla, .reg .h => .slaH
  | .sla, .reg .l => .slaL
  | .sla, .mhl => .slaMhl
  | .sla, .reg .a => .slaA
  | .sra, .reg .b => .sraB
  | .sra, .reg .c => .sraC
  | .sra, .reg .d => .sraD
  | .sra, .reg .e => .sraE
  | .sra, .reg .h => .sraH
  | .sra, .reg .l => .sraL
  | .sra, .mhl => .sraMhl
  | .sra, .reg .a => .sraA
  | .swap, .reg .b => .swapB
  | .swap, .reg .c => .swapC
  | .swap, .reg .d => .swapD
  | .swap, .reg .e => .swapE
  | .swap, .reg .h => .swapH
  | .swap, .reg .l => .swapL
  | .swap, .mhl => .swapMhl
  | .swap, .reg .a => .swapA
  | .srl, .reg .b => .srlB
  | .srl, .reg .c => .srlC
  | .srl, .reg .d => .srlD
  | .srl, .reg .e => .srlE
  | .srl, .reg .h => .srlH
  | .srl, .reg .l => .srlL
  | .srl, .mhl => .srlMhl
  | .srl, .reg .a => .srlA

/-- `BIT b,r` (R550). -/
def Instr.ofBit : BitIx → R8 → Instr
  | .b0, .reg .b => .bit0B
  | .b0, .reg .c => .bit0C
  | .b0, .reg .d => .bit0D
  | .b0, .reg .e => .bit0E
  | .b0, .reg .h => .bit0H
  | .b0, .reg .l => .bit0L
  | .b0, .mhl => .bit0Mhl
  | .b0, .reg .a => .bit0A
  | .b1, .reg .b => .bit1B
  | .b1, .reg .c => .bit1C
  | .b1, .reg .d => .bit1D
  | .b1, .reg .e => .bit1E
  | .b1, .reg .h => .bit1H
  | .b1, .reg .l => .bit1L
  | .b1, .mhl => .bit1Mhl
  | .b1, .reg .a => .bit1A
  | .b2, .reg .b => .bit2B
  | .b2, .reg .c => .bit2C
  | .b2, .reg .d => .bit2D
  | .b2, .reg .e => .bit2E
  | .b2, .reg .h => .bit2H
  | .b2, .reg .l => .bit2L
  | .b2, .mhl => .bit2Mhl
  | .b2, .reg .a => .bit2A
  | .b3, .reg .b => .bit3B
  | .b3, .reg .c => .bit3C
  | .b3, .reg .d => .bit3D
  | .b3, .reg .e => .bit3E
  | .b3, .reg .h => .bit3H
  | .b3, .reg .l => .bit3L
  | .b3, .mhl => .bit3Mhl
  | .b3, .reg .a => .bit3A
  | .b4, .reg .b => .bit4B
  | .b4, .reg .c => .bit4C
  | .b4, .reg .d => .bit4D
  | .b4, .reg .e => .bit4E
  | .b4, .reg .h => .bit4H
  | .b4, .reg .l => .bit4L
  | .b4, .mhl => .bit4Mhl
  | .b4, .reg .a => .bit4A
  | .b5, .reg .b => .bit5B
  | .b5, .reg .c => .bit5C
  | .b5, .reg .d => .bit5D
  | .b5, .reg .e => .bit5E
  | .b5, .reg .h => .bit5H
  | .b5, .reg .l => .bit5L
  | .b5, .mhl => .bit5Mhl
  | .b5, .reg .a => .bit5A
  | .b6, .reg .b => .bit6B
  | .b6, .reg .c => .bit6C
  | .b6, .reg .d => .bit6D
  | .b6, .reg .e => .bit6E
  | .b6, .reg .h => .bit6H
  | .b6, .reg .l => .bit6L
  | .b6, .mhl => .bit6Mhl
  | .b6, .reg .a => .bit6A
  | .b7, .reg .b => .bit7B
  | .b7, .reg .c => .bit7C
  | .b7, .reg .d => .bit7D
  | .b7, .reg .e => .bit7E
  | .b7, .reg .h => .bit7H
  | .b7, .reg .l => .bit7L
  | .b7, .mhl => .bit7Mhl
  | .b7, .reg .a => .bit7A

/-- `RES b,r` (R551). -/
def Instr.ofRes : BitIx → R8 → Instr
  | .b0, .reg .b => .res0B
  | .b0, .reg .c => .res0C
  | .b0, .reg .d => .res0D
  | .b0, .reg .e => .res0E
  | .b0, .reg .h => .res0H
  | .b0, .reg .l => .res0L
  | .b0, .mhl => .res0Mhl
  | .b0, .reg .a => .res0A
  | .b1, .reg .b => .res1B
  | .b1, .reg .c => .res1C
  | .b1, .reg .d => .res1D
  | .b1, .reg .e => .res1E
  | .b1, .reg .h => .res1H
  | .b1, .reg .l => .res1L
  | .b1, .mhl => .res1Mhl
  | .b1, .reg .a => .res1A
  | .b2, .reg .b => .res2B
  | .b2, .reg .c => .res2C
  | .b2, .reg .d => .res2D
  | .b2, .reg .e => .res2E
  | .b2, .reg .h => .res2H
  | .b2, .reg .l => .res2L
  | .b2, .mhl => .res2Mhl
  | .b2, .reg .a => .res2A
  | .b3, .reg .b => .res3B
  | .b3, .reg .c => .res3C
  | .b3, .reg .d => .res3D
  | .b3, .reg .e => .res3E
  | .b3, .reg .h => .res3H
  | .b3, .reg .l => .res3L
  | .b3, .mhl => .res3Mhl
  | .b3, .reg .a => .res3A
  | .b4, .reg .b => .res4B
  | .b4, .reg .c => .res4C
  | .b4, .reg .d => .res4D
  | .b4, .reg .e => .res4E
  | .b4, .reg .h => .res4H
  | .b4, .reg .l => .res4L
  | .b4, .mhl => .res4Mhl
  | .b4, .reg .a => .res4A
  | .b5, .reg .b => .res5B
  | .b5, .reg .c => .res5C
  | .b5, .reg .d => .res5D
  | .b5, .reg .e => .res5E
  | .b5, .reg .h => .res5H
  | .b5, .reg .l => .res5L
  | .b5, .mhl => .res5Mhl
  | .b5, .reg .a => .res5A
  | .b6, .reg .b => .res6B
  | .b6, .reg .c => .res6C
  | .b6, .reg .d => .res6D
  | .b6, .reg .e => .res6E
  | .b6, .reg .h => .res6H
  | .b6, .reg .l => .res6L
  | .b6, .mhl => .res6Mhl
  | .b6, .reg .a => .res6A
  | .b7, .reg .b => .res7B
  | .b7, .reg .c => .res7C
  | .b7, .reg .d => .res7D
  | .b7, .reg .e => .res7E
  | .b7, .reg .h => .res7H
  | .b7, .reg .l => .res7L
  | .b7, .mhl => .res7Mhl
  | .b7, .reg .a => .res7A

/-- `SET b,r` (R552). -/
def Instr.ofSet : BitIx → R8 → Instr
  | .b0, .reg .b => .set0B
  | .b0, .reg .c => .set0C
  | .b0, .reg .d => .set0D
  | .b0, .reg .e => .set0E
  | .b0, .reg .h => .set0H
  | .b0, .reg .l => .set0L
  | .b0, .mhl => .set0Mhl
  | .b0, .reg .a => .set0A
  | .b1, .reg .b => .set1B
  | .b1, .reg .c => .set1C
  | .b1, .reg .d => .set1D
  | .b1, .reg .e => .set1E
  | .b1, .reg .h => .set1H
  | .b1, .reg .l => .set1L
  | .b1, .mhl => .set1Mhl
  | .b1, .reg .a => .set1A
  | .b2, .reg .b => .set2B
  | .b2, .reg .c => .set2C
  | .b2, .reg .d => .set2D
  | .b2, .reg .e => .set2E
  | .b2, .reg .h => .set2H
  | .b2, .reg .l => .set2L
  | .b2, .mhl => .set2Mhl
  | .b2, .reg .a => .set2A
  | .b3, .reg .b => .set3B
  | .b3, .reg .c => .set3C
  | .b3, .reg .d => .set3D
  | .b3, .reg .e => .set3E
  | .b3, .reg .h => .set3H
  | .b3, .reg .l => .set3L
  | .b3, .mhl => .set3Mhl
  | .b3, .reg .a => .set3A
  | .b4, .reg .b => .set4B
  | .b4, .reg .c => .set4C
  | .b4, .reg .d => .set4D
  | .b4, .reg .e => .set4E
  | .b4, .reg .h => .set4H
  | .b4, .reg .l => .set4L
  | .b4, .mhl => .set4Mhl
  | .b4, .reg .a => .set4A
  | .b5, .reg .b => .set5B
  | .b5, .reg .c => .set5C
  | .b5, .reg .d => .set5D
  | .b5, .reg .e => .set5E
  | .b5, .reg .h => .set5H
  | .b5, .reg .l => .set5L
  | .b5, .mhl => .set5Mhl
  | .b5, .reg .a => .set5A
  | .b6, .reg .b => .set6B
  | .b6, .reg .c => .set6C
  | .b6, .reg .d => .set6D
  | .b6, .reg .e => .set6E
  | .b6, .reg .h => .set6H
  | .b6, .reg .l => .set6L
  | .b6, .mhl => .set6Mhl
  | .b6, .reg .a => .set6A
  | .b7, .reg .b => .set7B
  | .b7, .reg .c => .set7C
  | .b7, .reg .d => .set7D
  | .b7, .reg .e => .set7E
  | .b7, .reg .h => .set7H
  | .b7, .reg .l => .set7L
  | .b7, .mhl => .set7Mhl
  | .b7, .reg .a => .set7A

/-! The words of the opcode table -/

/-- The bytes of a table word, numbered as spec/opcode_table.json numbers it, with zeros above (INDEX.md,
notes/assumptions/11.md): a primary row's first byte is bits 7:0; a CB row's 16 bits have the 0xCB byte in bits 15:8;
the prefix row is its one byte. -/
def tableBytes (nbits w : Nat) : List Byte :=
  if nbits = 16 ∧ w / 0x100 = 0xCB then [0xCB, BitVec.ofNat 8 w]
  else if nbits ≤ 8 ∧ w = 0xCB then [0xCB]
  else [BitVec.ofNat 8 w, BitVec.ofNat 8 (w / 0x100), BitVec.ofNat 8 (w / 0x10000)]

/-- The instruction the decoder reads from a table word. -/
def decodeTableWord (nbits w : Nat) : Option Instr :=
  match decode (tableBytes nbits w) with
  | .ok (i, _) => some i
  | .error _ => none

end Sys2Proof
end

