-- ==== Sys2Proof/Config.lean ====
section
/-! DEFINITION. The configuration parameters of 00_scope.md R9 as plain data, and the free value of
same-cycle ties.
A machine carries its configuration in `State.cfg` (notes/assumptions/4.md), so a statement about every state
holds for every configuration. -/

namespace Sys2Proof

/-- `PLACEHOLDER_MODE` (46_misc.md R701). -/
inductive PlaceholderMode where
  /-- a placeholder opcode is refused -/
  | refuse
  /-- a placeholder opcode does nothing but its fetch and its cost -/
  | sourceNop
deriving DecidableEq, Repr

/-- `BANK_CONTROL`: the closed set of strategies has one member (20_memory.md R221). -/
inductive BankControl where
  | romOnly
deriving DecidableEq, Repr

/-- One entry of a `COST_TABLE` that differs from the default (notes/assumptions/16.md): the opcode (the byte, or
`0xCB00 | op2`), the cost, and the cost when a conditional transfer is taken (30_encoding.md R325). -/
structure CostRow where
  op : Nat
  cost : Nat
  costTaken : Nat
deriving DecidableEq, Repr

/-- The parameters of a built machine (R9). `INIT_REGS`, `RAM_INIT`, `LY_INIT`, `BOOT_IMAGE` and `ROM_IMAGE` are
arguments of construction and load (Machine/Load.lean); `on_event` is a free value (`Config.host`,
Machine/Sched.lean). -/
structure Config where
  placeholderMode : PlaceholderMode
  bankControl : BankControl
  /-- `N_ERAM`, at least 1 -/
  nEram : Nat
  /-- `N_WRAM`, at least 1 -/
  nWram : Nat
  /-- `DIAG_ADDR`; `none`: the host has given no address (notes/assumptions/5.md) -/
  diagAddr : Option Word
  /-- the entries in which `COST_TABLE` differs from R920 and R922 -/
  costs : List CostRow
deriving DecidableEq, Repr

/-- The defaults of R9 (D6, D7, D14, D15); `diagAddr` is open there and not given here. -/
def Config.default : Config where
  placeholderMode := .refuse
  bankControl := .romOnly
  nEram := 1
  nWram := 1
  diagAddr := none
  costs := []

/-- FREE VALUE (notes/assumptions/8.md). Which of several events with the same least trigger `process_events` takes:
"choose any (m, id) in queue" (60_exceptions.md R823). Applied to `State.ties`; no body, so nothing can be
proved of its value. -/
opaque Config.tieChoice : Nat → Nat

end Sys2Proof
end

