-- ==== Sys2Proof/Machine/State.lean ====
section
/-! DEFINITION. The machine state `(cpu, mem, sched, dbg, status)` of 10_state.md, the reasons a step can stop, and
the machine right after construction and `load_cartridge`. Plain data throughout. -/

namespace Sys2Proof.Machine

/-- The four flags of F's high nibble (R103). F's bits 3:0 are hard-wired to 0 and hold nothing, so F is these four
bits; `flagsToByte` and `flagsOfByte` (Machine/Flags.lean) give F as a byte (notes/assumptions/12.md). -/
structure Flags where
  z : Bool
  n : Bool
  h : Bool
  c : Bool
deriving DecidableEq, Repr

/-- Register file (R100) and execution-engine bits (R110, R111). -/
structure Cpu where
  a : Byte
  flags : Flags
  b : Byte
  c : Byte
  d : Byte
  e : Byte
  h : Byte
  l : Byte
  sp : Word
  pc : Word
  halted : Bool
  stopped : Bool
  /-- the branch-taken bit (R111) -/
  taken : Bool
deriving DecidableEq, Repr

/-- Storage as (key, byte) pairs: keys strictly rising, no entry equal to what an unlisted key reads as. The key of
a backing byte is `bank * 0x10000 + address` (notes/assumptions/13.md). -/
abbrev Cells := List Host.Cell

/-- State of the configured bank-control strategy (R117): `RomOnly` keeps none (R221). -/
inductive BankState where
  | none
deriving DecidableEq, Repr

/-- The memory subsystem (R113 to R117). -/
structure Bus where
  /-- `rom0`, `romx`, `vram`, `eram`, `wram0`, `wramx`, `oam`, `io`, `hram`, `ie` and `boot` (R113) -/
  cells : Cells
  /-- `ROM_BANKS`, bank 0 included (R116) -/
  romBanks : Nat
  romBank : Nat
  eramBank : Nat
  wramBank : Nat
  bootBound : Bool
  bankState : BankState
deriving DecidableEq, Repr

/-- A scheduler event `(trigger, id)` (R118). -/
structure SchedEvent where
  trigger : Nat
  id : Nat
deriving DecidableEq, Repr

/-- The cycle scheduler (R118): `queue` is a multiset held as its sorted list (notes/assumptions/19.md). -/
structure Scheduler where
  now : Nat
  queue : List SchedEvent
deriving DecidableEq, Repr

/-- The breakpoint maps (R119), each as the rising list of the addresses mapped to 1 (notes/assumptions/20.md). -/
structure Debug where
  rdBp : List Nat
  wrBp : List Nat
  codeBp : List Nat
deriving DecidableEq, Repr

/-- The information a fatal fault records (R112, R801, R802). -/
inductive FaultRecord where
  | decodeError (a0 : Word) (op : Byte)
  | schedulerUnderflow
deriving DecidableEq, Repr

/-- `status` (R112). -/
inductive Status where
  | ok
  | faulted (f : FaultRecord)
  | refused (op : Byte)
deriving DecidableEq, Repr

/-- The switchable regions of `set_bank` (R225). -/
inductive BankRegion where
  | rom
  | eram
  | wram
deriving DecidableEq, Repr

/-- A host-port call a callback may make that changes this block's state (R826); the read ports (`debug_read`,
`get_t_cycles`, `is_event_pending`) change nothing and need no entry. -/
inductive HostCall where
  | addEvent (delay id : Nat)
  | setBank (region : BankRegion) (k : Nat)
  | setReadBp (a : Word) (e : Bool)
  | setWriteBp (a : Word) (e : Bool)
  | setCodeBp (a : Word) (e : Bool)
deriving DecidableEq, Repr

/-- The observation events of the output channel (R830). `Trace` and `CodeBreakpoint` carry the opcode
(`0xCB00 | op2` for a CB instruction) and the immediate bytes (R323). -/
inductive OutEvent where
  | bootUnbound
  | readBreakpoint (a : Word)
  | writeBreakpoint (a : Word) (v : Byte)
  | diagChar (v : Byte)
  | callEntered (source target : Word)
  | returned (source target : Word)
  | trace (a0 : Word) (op : Nat) (imm : List Byte)
  | codeBreakpoint (a0 : Word) (op : Nat) (imm : List Byte)
  | eventFired (id trigger now : Nat)
  | fault (f : FaultRecord)
  | refusal (a0 : Word) (op : Byte)
deriving DecidableEq, Repr

/-- The machine. `cpu`, `mem`, `sched`, `dbg`, `status` are the spec's state; `cfg` is its configuration; `out`,
`callbacks` and `ties` are the model's own fields (notes/assumptions/4.md, 7.md, 8.md, 9.md). -/
structure State where
  cpu : Cpu
  mem : Bus
  sched : Scheduler
  dbg : Debug
  status : Status
  /-- the configuration (R9), changed by nothing -/
  cfg : Config
  /-- the output channel (R830), oldest event first -/
  out : List OutEvent
  /-- how many callbacks have run: all a callback has, beside the machine's state, to depend on what is outside this
  block (R826) -/
  callbacks : Nat
  /-- how many same-cycle ties have been decided; argument of `Config.tieChoice` (R823) -/
  ties : Nat
deriving DecidableEq, Repr

/-- Why no step exists, as a fault. Each is raised by `step` alone. -/
inductive Fault where
  /-- Raised by `step` when status is `Faulted(DecodeError(a0, op))` (R801, R112). Safe: the machine has stopped. -/
  | decodeError (a0 : Word) (op : Byte)
  /-- Raised by `step` when status is `Faulted(SchedulerUnderflow)` (R802, R112). Safe: the machine has stopped. -/
  | schedulerUnderflow
  /-- Raised by `step` when `halted` is 1: the engine has no step (R324). Safe: stuck, and never reached (R110). -/
  | halted
  /-- Raised by `step` when `stopped` is 1: the engine has no step (R324). Safe: stuck, and never reached (R110). -/
  | stopped
deriving DecidableEq, Repr

/-- Why no step exists, as a refusal. -/
inductive Refusal where
  /-- An arm of `exec` without a meaning; no arm answers it. Safe: the run stops. -/
  | notModelled (mnemonic : String)
  /-- Raised by `step` when status is `Refused(op)`: a placeholder was reached under `PLACEHOLDER_MODE = Refuse`
  (R804, R112). Safe: the machine has stopped. -/
  | unimplemented (op : Byte)
deriving DecidableEq, Repr

/-- The outcome of a meaning or of a step. -/
abbrev Result := Host.Outcome State Fault Refusal

/-- What the engine fetched (R320): the table entry with its immediates, the opcode number a trace reports, the
immediate bytes in fetch order, and the state after the fetch. -/
structure Fetched where
  instr : Instr
  op : Nat
  imms : List Byte
  state : State
deriving DecidableEq, Repr

/-- The machine after construction and `load_cartridge` (R120, R900): every value R120 gives, and for its open
parameters the values of notes/assumptions/1.md, 2.md, 3.md and 5.md. -/
def State.reset : State where
  cpu := { a := 0, flags := { z := false, n := false, h := false, c := false },
           b := 0, c := 0, d := 0, e := 0, h := 0, l := 0, sp := 0, pc := 0,
           halted := false, stopped := false, taken := false }
  mem := { cells := [], romBanks := 2, romBank := 1, eramBank := 0, wramBank := 0,
           bootBound := true, bankState := .none }
  sched := { now := 0, queue := [] }
  dbg := { rdBp := [], wrBp := [], codeBp := [] }
  status := .ok
  cfg := Config.default
  out := []
  callbacks := 0
  ties := 0

end Sys2Proof.Machine
end

