-- ==== Sys2Proof/Machine/Flags.lean ====
section
/-! DEFINITION. The flag register and every flag computation (10_state.md R103, R104, R109; 40_alu8.md; 41_alu16.md).
The arithmetic is on mathematical integers, as in the rules. -/

namespace Sys2Proof.Machine

/-- F as a byte: Z, N, H, C in bits 7, 6, 5, 4 and 0 in bits 3:0 (R103). -/
def flagsToByte (f : Flags) : Byte :=
  BitVec.ofNat 8 (128 * f.z.toNat + 64 * f.n.toNat + 32 * f.h.toNat + 16 * f.c.toNat)

/-- A write of `v` to F keeps `v[7:4]` and discards bits 3:0 (R103). -/
def flagsOfByte (v : Byte) : Flags where
  z := v.getLsbD 7
  n := v.getLsbD 6
  h := v.getLsbD 5
  c := v.getLsbD 4

/-- `flag(f)` (R104). -/
def getFlag (f : Flag) (s : State) : Bool :=
  match f with
  | .z => s.cpu.flags.z
  | .n => s.cpu.flags.n
  | .h => s.cpu.flags.h
  | .c => s.cpu.flags.c

/-- `flags <- (z, n, h, c)`: all four at once (R11). -/
def setFlags (f : Flags) (s : State) : State := { s with cpu := { s.cpu with flags := f } }

/-- `flag(f) <- v` changes only that flag (R104). -/
def setFlag (f : Flag) (v : Bool) (s : State) : State :=
  match f with
  | .z => setFlags { s.cpu.flags with z := v } s
  | .n => setFlags { s.cpu.flags with n := v } s
  | .h => setFlags { s.cpu.flags with h := v } s
  | .c => setFlags { s.cpu.flags with c := v } s

/-- `(a + b + c) & 0xFF` (R401, R402). -/
def addByte (a b : Byte) (c : Bool) : Byte := BitVec.ofNat 8 (a.toNat + b.toNat + c.toNat)

/-- Flags of an 8-bit addition with carry in `c` (R401 with `c = 0`, R402). -/
def addFlags (a b : Byte) (c : Bool) : Flags where
  z := (a.toNat + b.toNat + c.toNat) % 256 == 0
  n := false
  h := decide (a.toNat % 16 + b.toNat % 16 + c.toNat > 0xF)
  c := decide (a.toNat + b.toNat + c.toNat > 0xFF)

/-- `(a - b - c) & 0xFF` (R403, R404). -/
def subByte (a b : Byte) (c : Bool) : Byte :=
  BitVec.ofInt 8 ((a.toNat : Int) - (b.toNat : Int) - (c.toNat : Int))

/-- Flags of an 8-bit subtraction with borrow in `c` (R403 and R408 with `c = 0`, R404). -/
def subFlags (a b : Byte) (c : Bool) : Flags where
  z := ((a.toNat : Int) - (b.toNat : Int) - (c.toNat : Int)) % 256 == 0
  n := true
  h := decide (((a.toNat % 16 : Nat) : Int) - ((b.toNat % 16 : Nat) : Int) - (c.toNat : Int) < 0)
  c := decide ((a.toNat : Int) - (b.toNat : Int) - (c.toNat : Int) < 0)

/-- Flags of AND (`h = 1`), XOR and OR (`h = 0`) with result `r` (R405, R406, R407). -/
def logicFlags (r : Byte) (h : Bool) : Flags where
  z := r == 0
  n := false
  h := h
  c := false

/-- Flags of INC r from the old value `v`; C stays as it is in `f` (R410). -/
def incFlags (v : Byte) (f : Flags) : Flags where
  z := (v.toNat + 1) % 256 == 0
  n := false
  h := v.toNat % 16 == 0xF
  c := f.c

/-- Flags of DEC r from the old value `v`; C stays as it is in `f` (R411). -/
def decFlags (v : Byte) (f : Flags) : Flags where
  z := v.toNat == 1
  n := true
  h := v.toNat % 16 == 0
  c := f.c

/-- Flags of ADD HL,rr by byte-wise carry propagation; Z stays as it is in `f` (R450, conflict C9). -/
def addHlFlags (a b : Word) (f : Flags) : Flags :=
  let cl := decide (a.toNat % 256 + b.toNat % 256 > 0xFF)
  { z := f.z
    n := false
    h := decide (a.toNat / 256 % 16 + b.toNat / 256 % 16 + cl.toNat > 0xF)
    c := decide (a.toNat / 256 + b.toNat / 256 + cl.toNat > 0xFF) }

/-- Flags of ADD SP,e8 and LD HL,SP+e8: the carries of the unsigned low-byte addition (R453, R454). -/
def spOffsetFlags (s : Word) (u : Byte) : Flags where
  z := false
  n := false
  h := decide (s.toNat % 16 + u.toNat % 16 > 0xF)
  c := decide (s.toNat % 256 + u.toNat > 0xFF)

/-- Flags of a CB rotate or shift with result `r` and bit out `c` (R504). -/
def rotFlags (r : Byte) (c : Bool) : Flags where
  z := r == 0
  n := false
  h := false
  c := c

/-- Flags of RLCA, RRCA, RLA, RRA: Z is always cleared (R500 to R503). -/
def rotAccFlags (c : Bool) : Flags where
  z := false
  n := false
  h := false
  c := c

/-- Flags of BIT b,r for the tested bit `x`; C stays as it is in `f` (R550). -/
def bitFlags (x : Bool) (f : Flags) : Flags where
  z := !x
  n := false
  h := true
  c := f.c

/-- `cond(cc)` (R313). -/
def condHolds (cc : Cond) (s : State) : Bool :=
  match cc with
  | .nz => !s.cpu.flags.z
  | .z => s.cpu.flags.z
  | .nc => !s.cpu.flags.c
  | .c => s.cpu.flags.c

end Sys2Proof.Machine
end

