-- ==== Sys2Proof/Machine/Memory.lean ====
section
/-! DEFINITION. Storage in canonical form, and the address decoder (20_memory.md R201, 10_state.md R113). -/

namespace Sys2Proof.Machine

/-- What a key that is not listed reads as: the byte every backing byte holds that nothing has loaded or stored
(notes/assumptions/2.md). -/
def unlistedByte : Byte := 0x00

/-- The byte stored under `key`. -/
def cellsGet : Cells → Nat → Byte
  | [], _ => unlistedByte
  | (k, v) :: rest, key => if k = key then v else cellsGet rest key

/-- Put `v` in front of cells whose keys are all above `key`, or nothing if `v` is what an unlisted key reads as. -/
def cellsCons (key : Nat) (v : Byte) (rest : Cells) : Cells :=
  if v = unlistedByte then rest else (key, v) :: rest

/-- Store `v` under `key`, keeping the canonical form. -/
def cellsPut : Cells → Nat → Byte → Cells
  | [], key, v => cellsCons key v []
  | (k, w) :: rest, key, v =>
    if key < k then cellsCons key v ((k, w) :: rest)
    else if key = k then cellsCons key v rest
    else (k, w) :: cellsPut rest key v

/-- A key is above a lower bound, if there is one. -/
def aboveBound (lo : Option Nat) (key : Nat) : Bool :=
  match lo with
  | none => true
  | some l => decide (l < key)

/-- Every key of the list is above `lo` (none if `lo = none`), keys rise, and no entry is the unlisted byte. -/
def cellsWfFrom : Option Nat → Cells → Bool
  | _, [] => true
  | lo, (k, v) :: rest =>
    aboveBound lo k && decide (v ≠ unlistedByte) && cellsWfFrom (some k) rest

/-- The canonical form: keys strictly rising, no entry equal to what an unlisted key reads as. -/
def Memory.wf (m : Cells) : Bool := cellsWfFrom none m

/-- Store the bytes of a list at consecutive keys. -/
def cellsPutList : Cells → Nat → List Byte → Cells
  | m, _, [] => m
  | m, key, v :: vs => cellsPutList (cellsPut m key v) (key + 1) vs

/-- The thirteen rows of the region table (R201, conflict C1). -/
inductive Region where
  | overlay
  | rom0
  | romx
  | vram
  | eram
  | wram0
  | wramx
  | echo
  | oam
  | unused
  | io
  | hram
  | ie
deriving DecidableEq, Repr

/-- The region of an address (R201). -/
def regionOf (a : Word) : Region :=
  if a.toNat ≤ 0x00FF then .overlay
  else if a.toNat ≤ 0x3FFF then .rom0
  else if a.toNat ≤ 0x7FFF then .romx
  else if a.toNat ≤ 0x9FFF then .vram
  else if a.toNat ≤ 0xBFFF then .eram
  else if a.toNat ≤ 0xCFFF then .wram0
  else if a.toNat ≤ 0xDFFF then .wramx
  else if a.toNat ≤ 0xFDFF then .echo
  else if a.toNat ≤ 0xFE9F then .oam
  else if a.toNat ≤ 0xFEFF then .unused
  else if a.toNat ≤ 0xFF7F then .io
  else if a.toNat ≤ 0xFFFE then .hram
  else .ie

/-- The key of the byte that backs address `a` in bank `bank` of its window (notes/assumptions/13.md): `rom0`,
`vram`, `wram0`, `oam`, `io`, `hram` and `ie` are bank 0, `romx[k]`, `eram[k]` and `wramx[k]` are bank k, and `boot`
is bank 1 of the window 0x0000–0x00FF. -/
def cellKey (bank : Nat) (a : Word) : Nat := bank * 0x10000 + a.toNat

/-- `backing(a)`: the key of the backing byte, `none` where the address is unmapped (R201). -/
def backing (m : Bus) (a : Word) : Option Nat :=
  match regionOf a with
  | .overlay => some (cellKey (if m.bootBound then 1 else 0) a)
  | .rom0 => some (cellKey 0 a)
  | .romx => some (cellKey m.romBank a)
  | .vram => some (cellKey 0 a)
  | .eram => some (cellKey m.eramBank a)
  | .wram0 => some (cellKey 0 a)
  | .wramx => some (cellKey m.wramBank a)
  | .echo => none
  | .oam => some (cellKey 0 a)
  | .unused => none
  | .io => some (cellKey 0 a)
  | .hram => some (cellKey 0 a)
  | .ie => some (cellKey 0 a)

/-- What a read of an unmapped address returns (R212). -/
def sentinel : Byte := 0xFF

/-- The byte an address holds now: its backing byte, or the sentinel (R201, R212). It has no side effect. -/
def busPeek (m : Bus) (a : Word) : Byte :=
  match backing m a with
  | some k => cellsGet m.cells k
  | none => sentinel

/-- Store to the backing byte of an address; an unmapped address stores nothing (R215, R217). -/
def busStore (m : Bus) (a : Word) (v : Byte) : Bus :=
  match backing m a with
  | some k => { m with cells := cellsPut m.cells k v }
  | none => m

end Sys2Proof.Machine
end

