-- ==== Sys2Proof/Machine/Ops.lean ====
section
/-! DEFINITION. The named operations over registers and memory: register access (10_state.md R101 to R105), the read
and write ports (20_memory.md R210, R215), 16-bit accesses, the stack primitives (44_control.md R600, R601), and the
abnormal outcomes (60_exceptions.md R801, R804). There is no trap entry and no return from one (R812). -/

namespace Sys2Proof.Machine

/-! Registers -/

/-- `R[r]` (R11). -/
def reg (r : Reg8) (s : State) : Byte :=
  match r with
  | .a => s.cpu.a
  | .b => s.cpu.b
  | .c => s.cpu.c
  | .d => s.cpu.d
  | .e => s.cpu.e
  | .h => s.cpu.h
  | .l => s.cpu.l

/-- `R[r] <- v` (R11). -/
def setReg (r : Reg8) (v : Byte) (s : State) : State :=
  match r with
  | .a => { s with cpu := { s.cpu with a := v } }
  | .b => { s with cpu := { s.cpu with b := v } }
  | .c => { s with cpu := { s.cpu with c := v } }
  | .d => { s with cpu := { s.cpu with d := v } }
  | .e => { s with cpu := { s.cpu with e := v } }
  | .h => { s with cpu := { s.cpu with h := v } }
  | .l => { s with cpu := { s.cpu with l := v } }

/-- `RR[SP] <- v`. -/
def setSp (v : Word) (s : State) : State := { s with cpu := { s.cpu with sp := v } }

/-- `pc <- v`. -/
def setPc (v : Word) (s : State) : State := { s with cpu := { s.cpu with pc := v } }

/-- `RR[p]` (R101, R102): the first-named register is the high byte. -/
def pair (p : Reg16) (s : State) : Word :=
  match p with
  | .af => joinBytes s.cpu.a (flagsToByte s.cpu.flags)
  | .bc => joinBytes s.cpu.b s.cpu.c
  | .de => joinBytes s.cpu.d s.cpu.e
  | .hl => joinBytes s.cpu.h s.cpu.l
  | .sp => s.cpu.sp
  | .pc => s.cpu.pc

/-- `RR[p] <- v` (R102); a write of AF discards F's bits 3:0 (R103). -/
def setPair (p : Reg16) (v : Word) (s : State) : State :=
  match p with
  | .af => setFlags (flagsOfByte (loByte v)) (setReg .a (hiByte v) s)
  | .bc => setReg .c (loByte v) (setReg .b (hiByte v) s)
  | .de => setReg .e (loByte v) (setReg .d (hiByte v) s)
  | .hl => setReg .l (loByte v) (setReg .h (hiByte v) s)
  | .sp => setSp v s
  | .pc => setPc v s

/-- `taken <- v` (R111). -/
def setTaken (v : Bool) (s : State) : State := { s with cpu := { s.cpu with taken := v } }

/-! The output channel -/

/-- `emit e`: append an event to the output channel (R830). -/
def emit (e : OutEvent) (s : State) : State := { s with out := s.out ++ [e] }

/-- `emit e` only if a condition holds. -/
def emitIf (b : Bool) (e : OutEvent) (s : State) : State := if b then emit e s else s

/-! The memory ports -/

/-- Replace the memory subsystem. -/
def setMem (m : Bus) (s : State) : State := { s with mem := m }

/-- The boot unbind of a read (R211): the first read while PC = 0x0100 and the overlay is bound removes it. -/
def unbindIfDue (s : State) : State :=
  if s.mem.bootBound = true ∧ s.cpu.pc = 0x0100 then
    emit .bootUnbound (setMem { s.mem with bootBound := false } s)
  else s

/-- The byte address `a` holds, with no side effect (R201, R212). -/
def peek (a : Word) (s : State) : Byte := busPeek s.mem a

/-- What a read of `a` leaves behind: the unbind, then the read-breakpoint event (R210). -/
def readEffect (a : Word) (s : State) : State :=
  emitIf (s.dbg.rdBp.contains a.toNat) (.readBreakpoint a) (unbindIfDue s)

/-- `MemRead(a, 1)` (R210): the unbind is made before the read resolves. -/
def memRead (a : Word) (s : State) : Byte × State := (peek a (unbindIfDue s), readEffect a s)

/-- `BANK_CONTROL.write(a, v)` (R220): `RomOnly` does nothing (R221). -/
def bankControlWrite (_a : Word) (_v : Byte) (s : State) : State :=
  match s.cfg.bankControl with
  | .romOnly => s

/-- The storage part of a write: bank control below 0x8000, else the backing byte (R215, R217). -/
def storeByte (a : Word) (v : Byte) (s : State) : State :=
  if a.toNat ≤ 0x7FFF then bankControlWrite a v s else setMem (busStore s.mem a v) s

/-- `MemWrite(a, 1, v)` (R215): storage, then the diagnostic character (R218), then the write breakpoint (R831). -/
def memWrite (a : Word) (v : Byte) (s : State) : State :=
  emitIf (s.dbg.wrBp.contains a.toNat) (.writeBreakpoint a v)
    (emitIf (decide (s.cfg.diagAddr = some a)) (.diagChar v) (storeByte a v s))

/-- `Read16(a)`: low byte first, the address wraps (R240). No instruction uses it; the stack reads are `pop16`. -/
def read16 (a : Word) (s : State) : Word × State :=
  let lo := memRead a s
  let hi := memRead (a + 1) lo.2
  (joinBytes hi.1 lo.1, hi.2)

/-- `Write16(a, v)`: low byte first, the address wraps (R241). -/
def write16 (a : Word) (v : Word) (s : State) : State :=
  memWrite (a + 1) (hiByte v) (memWrite a (loByte v) s)

/-! The stack -/

/-- `Push16(v)`: the high byte at SP − 1 first, then the low byte at SP − 2 (R600). -/
def push16 (v : Word) (s : State) : State :=
  let s1 := setSp (s.cpu.sp - 1) s
  let s2 := memWrite s1.cpu.sp (hiByte v) s1
  let s3 := setSp (s2.cpu.sp - 1) s2
  memWrite s3.cpu.sp (loByte v) s3

/-- `Pop16()`: the low byte first (R601). -/
def pop16 (s : State) : Word × State :=
  let lo := memRead s.cpu.sp s
  let s1 := setSp (lo.2.cpu.sp + 1) lo.2
  let hi := memRead s1.cpu.sp s1
  (joinBytes hi.1 lo.1, setSp (hi.2.cpu.sp + 1) hi.2)

/-! Abnormal outcomes -/

/-- `status <- v`. -/
def setStatus (v : Status) (s : State) : State := { s with status := v }

/-- `status <- Faulted(f)` with its event (R801, R802). -/
def raiseFault (f : FaultRecord) (s : State) : State := emit (.fault f) (setStatus (.faulted f) s)

/-- DecodeError of a one-byte opcode just fetched: PC is past the opcode, so a0 is PC − 1 (R801,
notes/assumptions/14.md). -/
def raiseDecodeError (op : Byte) (s : State) : State := raiseFault (.decodeError (s.cpu.pc - 1) op) s

/-- `status <- Refused(op)` with its event, for an instruction of `len` bytes just fetched (R701, R804). -/
def refuseOpcode (op : Byte) (len : Word) (s : State) : State :=
  emit (.refusal (s.cpu.pc - len) op) (setStatus (.refused op) s)

/-! Fetching -/

/-- Fetch the byte at PC through the read port and advance PC (R107, R320). -/
def fetchByte (s : State) : Byte × State :=
  let r := memRead s.cpu.pc s
  (r.1, setPc (r.2.cpu.pc + 1) r.2)

end Sys2Proof.Machine
end

