-- ==== Sys2Proof/Machine/Operands.lean ====
section
/-! DEFINITION. The operand forms (00_scope.md R12, R13; 45_load.md R672). -/

namespace Sys2Proof.Machine

/-- The register pair an `rr` operand names (R311). -/
def rrPair (p : RR) : Reg16 :=
  match p with
  | .bc => .bc
  | .de => .de
  | .hl => .hl
  | .sp => .sp

/-- The register pair a `qq` operand names (R312). -/
def qqPair (p : QQ) : Reg16 :=
  match p with
  | .bc => .bc
  | .de => .de
  | .hl => .hl
  | .af => .af

/-- `val(r)` with the state after it: a register read changes nothing, `(HL)` is one `MemRead` (R13). -/
def readR8 (r : R8) (s : State) : Byte × State :=
  match r with
  | .reg x => (reg x s, s)
  | .mhl => memRead (pair .hl s) s

/-- `set(r, v)` (R13). -/
def writeR8 (r : R8) (v : Byte) (s : State) : State :=
  match r with
  | .reg x => setReg x v s
  | .mhl => memWrite (pair .hl s) v s

/-- The address of a high-page operand: `0xFF00 + x` (R305, R672). -/
def highPage (x : Byte) : Word := 0xFF00 + x.setWidth 16

/-- The vector of RST: `t = 8·y` (R314, R616). -/
def rstTarget (t : Rst) : Word :=
  match t with
  | .t00 => 0x0000
  | .t08 => 0x0008
  | .t10 => 0x0010
  | .t18 => 0x0018
  | .t20 => 0x0020
  | .t28 => 0x0028
  | .t30 => 0x0030
  | .t38 => 0x0038

/-- The bit index of BIT, RES and SET (R301). -/
def bitIndex (b : BitIx) : Nat :=
  match b with
  | .b0 => 0
  | .b1 => 1
  | .b2 => 2
  | .b3 => 3
  | .b4 => 4
  | .b5 => 5
  | .b6 => 6
  | .b7 => 7

end Sys2Proof.Machine
end

