-- ==== Sys2Proof/Machine/Alu16.lean ====
section
/-! DEFINITION. 16-bit arithmetic (41_alu16.md). -/

namespace Sys2Proof.Machine

/-- ADD HL,rr (R450). -/
def addHlRR (p : RR) (s : State) : State :=
  setFlags (addHlFlags (pair .hl s) (pair (rrPair p) s) s.cpu.flags)
    (setPair .hl (pair .hl s + pair (rrPair p) s) s)

/-- INC rr (R451). -/
def incRR (p : RR) (s : State) : State := setPair (rrPair p) (pair (rrPair p) s + 1) s

/-- DEC rr (R452). -/
def decRR (p : RR) (s : State) : State := setPair (rrPair p) (pair (rrPair p) s - 1) s

/-- ADD SP,e8 (R453). -/
def addSpOffset (u : Byte) (s : State) : State :=
  setFlags (spOffsetFlags s.cpu.sp u) (setSp (s.cpu.sp + sext16 u) s)

/-- LD HL,SP+e8 (R454). -/
def ldHlSpOffset (u : Byte) (s : State) : State :=
  setFlags (spOffsetFlags s.cpu.sp u) (setPair .hl (s.cpu.sp + sext16 u) s)

/-! The meanings, one for each row. -/

/-- INC BC (R451). -/
def execIncBc (s : State) : Result := .next (incRR .bc s)

/-- ADD HL,BC (R450). -/
def execAddHlBc (s : State) : Result := .next (addHlRR .bc s)

/-- DEC BC (R452). -/
def execDecBc (s : State) : Result := .next (decRR .bc s)

/-- INC DE (R451). -/
def execIncDe (s : State) : Result := .next (incRR .de s)

/-- ADD HL,DE (R450). -/
def execAddHlDe (s : State) : Result := .next (addHlRR .de s)

/-- DEC DE (R452). -/
def execDecDe (s : State) : Result := .next (decRR .de s)

/-- INC HL (R451). -/
def execIncHl (s : State) : Result := .next (incRR .hl s)

/-- ADD HL,HL (R450). -/
def execAddHlHl (s : State) : Result := .next (addHlRR .hl s)

/-- DEC HL (R452). -/
def execDecHl (s : State) : Result := .next (decRR .hl s)

/-- INC SP (R451). -/
def execIncSp (s : State) : Result := .next (incRR .sp s)

/-- ADD HL,SP (R450). -/
def execAddHlSp (s : State) : Result := .next (addHlRR .sp s)

/-- DEC SP (R452). -/
def execDecSp (s : State) : Result := .next (decRR .sp s)

/-- ADD SP,e8 (R453). -/
def execAddSpE8 (n : Byte) (s : State) : Result := .next (addSpOffset n s)

/-- LD HL,SP+e8 (R454). -/
def execLdHlSpE8 (n : Byte) (s : State) : Result := .next (ldHlSpOffset n s)

end Sys2Proof.Machine
end

