-- ==== Sys2Proof/Machine/Alu8.lean ====
section
/-! DEFINITION. 8-bit arithmetic and logic (40_alu8.md). -/

namespace Sys2Proof.Machine

/-- ADD A,s (R401). -/
def addA (v : Byte) (s : State) : State :=
  setFlags (addFlags (reg .a s) v false) (setReg .a (addByte (reg .a s) v false) s)

/-- ADC A,s (R402). -/
def adcA (v : Byte) (s : State) : State :=
  setFlags (addFlags (reg .a s) v (getFlag .c s)) (setReg .a (addByte (reg .a s) v (getFlag .c s)) s)

/-- SUB s (R403). -/
def subA (v : Byte) (s : State) : State :=
  setFlags (subFlags (reg .a s) v false) (setReg .a (subByte (reg .a s) v false) s)

/-- SBC A,s (R404). -/
def sbcA (v : Byte) (s : State) : State :=
  setFlags (subFlags (reg .a s) v (getFlag .c s)) (setReg .a (subByte (reg .a s) v (getFlag .c s)) s)

/-- AND s (R405). -/
def andA (v : Byte) (s : State) : State :=
  setFlags (logicFlags (reg .a s &&& v) true) (setReg .a (reg .a s &&& v) s)

/-- XOR s (R406). -/
def xorA (v : Byte) (s : State) : State :=
  setFlags (logicFlags (reg .a s ^^^ v) false) (setReg .a (reg .a s ^^^ v) s)

/-- OR s (R407). -/
def orA (v : Byte) (s : State) : State :=
  setFlags (logicFlags (reg .a s ||| v) false) (setReg .a (reg .a s ||| v) s)

/-- CP s: the flags of SUB s; A is not written (R408). -/
def cpA (v : Byte) (s : State) : State := setFlags (subFlags (reg .a s) v false) s

/-- The ALU operation with operand value `v` (R314, R400). -/
def aluValue (op : AluOp) (v : Byte) (s : State) : State :=
  match op with
  | .add => addA v s
  | .adc => adcA v s
  | .sub => subA v s
  | .sbc => sbcA v s
  | .and => andA v s
  | .xor => xorA v s
  | .or => orA v s
  | .cp => cpA v s

/-- The ALU operation on `val(r)` (R400). -/
def aluR8 (op : AluOp) (r : R8) (s : State) : State :=
  let x := readR8 r s
  aluValue op x.1 x.2

/-- INC r: one read, one write, then the flags (R410, R13). -/
def incR8 (r : R8) (s : State) : State :=
  let x := readR8 r s
  let t := writeR8 r (x.1 + 1) x.2
  setFlags (incFlags x.1 t.cpu.flags) t

/-- DEC r (R411). -/
def decR8 (r : R8) (s : State) : State :=
  let x := readR8 r s
  let t := writeR8 r (x.1 - 1) x.2
  setFlags (decFlags x.1 t.cpu.flags) t

/-- CPL (R415). -/
def cplA (s : State) : State :=
  setFlags { s.cpu.flags with n := true, h := true } (setReg .a (~~~ reg .a s) s)

/-- SCF (R416). -/
def setCarry (s : State) : State := setFlags { s.cpu.flags with n := false, h := false, c := true } s

/-- CCF (R417). -/
def flipCarry (s : State) : State := setFlags { s.cpu.flags with n := false, h := false, c := !s.cpu.flags.c } s

/-- A placeholder opcode of `len` bytes: refused, or no effect beyond the fetch (R421, R701). -/
def placeholder (op : Byte) (len : Word) (s : State) : State :=
  match s.cfg.placeholderMode with
  | .refuse => refuseOpcode op len s
  | .sourceNop => s

/-! The meanings, one for each row. -/

/-- INC B (R410). -/
def execIncB (s : State) : Result := .next (incR8 (.reg .b) s)

/-- DEC B (R411). -/
def execDecB (s : State) : Result := .next (decR8 (.reg .b) s)

/-- INC C (R410). -/
def execIncC (s : State) : Result := .next (incR8 (.reg .c) s)

/-- DEC C (R411). -/
def execDecC (s : State) : Result := .next (decR8 (.reg .c) s)

/-- INC D (R410). -/
def execIncD (s : State) : Result := .next (incR8 (.reg .d) s)

/-- DEC D (R411). -/
def execDecD (s : State) : Result := .next (decR8 (.reg .d) s)

/-- INC E (R410). -/
def execIncE (s : State) : Result := .next (incR8 (.reg .e) s)

/-- DEC E (R411). -/
def execDecE (s : State) : Result := .next (decR8 (.reg .e) s)

/-- INC H (R410). -/
def execIncH (s : State) : Result := .next (incR8 (.reg .h) s)

/-- DEC H (R411). -/
def execDecH (s : State) : Result := .next (decR8 (.reg .h) s)

/-- DAA (R421). -/
def execDaa (s : State) : Result := .next (placeholder 0x27 1 s)

/-- INC L (R410). -/
def execIncL (s : State) : Result := .next (incR8 (.reg .l) s)

/-- DEC L (R411). -/
def execDecL (s : State) : Result := .next (decR8 (.reg .l) s)

/-- CPL (R415). -/
def execCpl (s : State) : Result := .next (cplA s)

/-- INC (HL) (R410). -/
def execIncMhl (s : State) : Result := .next (incR8 .mhl s)

/-- DEC (HL) (R411). -/
def execDecMhl (s : State) : Result := .next (decR8 .mhl s)

/-- SCF (R416). -/
def execScf (s : State) : Result := .next (setCarry s)

/-- INC A (R410). -/
def execIncA (s : State) : Result := .next (incR8 (.reg .a) s)

/-- DEC A (R411). -/
def execDecA (s : State) : Result := .next (decR8 (.reg .a) s)

/-- CCF (R417). -/
def execCcf (s : State) : Result := .next (flipCarry s)

/-- ADD A,B (R401). -/
def execAddAB (s : State) : Result := .next (aluR8 .add (.reg .b) s)

/-- ADD A,C (R401). -/
def execAddAC (s : State) : Result := .next (aluR8 .add (.reg .c) s)

/-- ADD A,D (R401). -/
def execAddAD (s : State) : Result := .next (aluR8 .add (.reg .d) s)

/-- ADD A,E (R401). -/
def execAddAE (s : State) : Result := .next (aluR8 .add (.reg .e) s)

/-- ADD A,H (R401). -/
def execAddAH (s : State) : Result := .next (aluR8 .add (.reg .h) s)

/-- ADD A,L (R401). -/
def execAddAL (s : State) : Result := .next (aluR8 .add (.reg .l) s)

/-- ADD A,(HL) (R401). -/
def execAddAMhl (s : State) : Result := .next (aluR8 .add .mhl s)

/-- ADD A,A (R401). -/
def execAddAA (s : State) : Result := .next (aluR8 .add (.reg .a) s)

/-- ADC A,B (R402). -/
def execAdcAB (s : State) : Result := .next (aluR8 .adc (.reg .b) s)

/-- ADC A,C (R402). -/
def execAdcAC (s : State) : Result := .next (aluR8 .adc (.reg .c) s)

/-- ADC A,D (R402). -/
def execAdcAD (s : State) : Result := .next (aluR8 .adc (.reg .d) s)

/-- ADC A,E (R402). -/
def execAdcAE (s : State) : Result := .next (aluR8 .adc (.reg .e) s)

/-- ADC A,H (R402). -/
def execAdcAH (s : State) : Result := .next (aluR8 .adc (.reg .h) s)

/-- ADC A,L (R402). -/
def execAdcAL (s : State) : Result := .next (aluR8 .adc (.reg .l) s)

/-- ADC A,(HL) (R402). -/
def execAdcAMhl (s : State) : Result := .next (aluR8 .adc .mhl s)

/-- ADC A,A (R402). -/
def execAdcAA (s : State) : Result := .next (aluR8 .adc (.reg .a) s)

/-- SUB B (R403). -/
def execSubB (s : State) : Result := .next (aluR8 .sub (.reg .b) s)

/-- SUB C (R403). -/
def execSubC (s : State) : Result := .next (aluR8 .sub (.reg .c) s)

/-- SUB D (R403). -/
def execSubD (s : State) : Result := .next (aluR8 .sub (.reg .d) s)

/-- SUB E (R403). -/
def execSubE (s : State) : Result := .next (aluR8 .sub (.reg .e) s)

/-- SUB H (R403). -/
def execSubH (s : State) : Result := .next (aluR8 .sub (.reg .h) s)

/-- SUB L (R403). -/
def execSubL (s : State) : Result := .next (aluR8 .sub (.reg .l) s)

/-- SUB (HL) (R403). -/
def execSubMhl (s : State) : Result := .next (aluR8 .sub .mhl s)

/-- SUB A (R403). -/
def execSubA (s : State) : Result := .next (aluR8 .sub (.reg .a) s)

/-- SBC A,B (R404). -/
def execSbcAB (s : State) : Result := .next (aluR8 .sbc (.reg .b) s)

/-- SBC A,C (R404). -/
def execSbcAC (s : State) : Result := .next (aluR8 .sbc (.reg .c) s)

/-- SBC A,D (R404). -/
def execSbcAD (s : State) : Result := .next (aluR8 .sbc (.reg .d) s)

/-- SBC A,E (R404). -/
def execSbcAE (s : State) : Result := .next (aluR8 .sbc (.reg .e) s)

/-- SBC A,H (R404). -/
def execSbcAH (s : State) : Result := .next (aluR8 .sbc (.reg .h) s)

/-- SBC A,L (R404). -/
def execSbcAL (s : State) : Result := .next (aluR8 .sbc (.reg .l) s)

/-- SBC A,(HL) (R404). -/
def execSbcAMhl (s : State) : Result := .next (aluR8 .sbc .mhl s)

/-- SBC A,A (R404). -/
def execSbcAA (s : State) : Result := .next (aluR8 .sbc (.reg .a) s)

/-- AND B (R405). -/
def execAndB (s : State) : Result := .next (aluR8 .and (.reg .b) s)

/-- AND C (R405). -/
def execAndC (s : State) : Result := .next (aluR8 .and (.reg .c) s)

/-- AND D (R405). -/
def execAndD (s : State) : Result := .next (aluR8 .and (.reg .d) s)

/-- AND E (R405). -/
def execAndE (s : State) : Result := .next (aluR8 .and (.reg .e) s)

/-- AND H (R405). -/
def execAndH (s : State) : Result := .next (aluR8 .and (.reg .h) s)

/-- AND L (R405). -/
def execAndL (s : State) : Result := .next (aluR8 .and (.reg .l) s)

/-- AND (HL) (R405). -/
def execAndMhl (s : State) : Result := .next (aluR8 .and .mhl s)

/-- AND A (R405). -/
def execAndA (s : State) : Result := .next (aluR8 .and (.reg .a) s)

/-- XOR B (R406). -/
def execXorB (s : State) : Result := .next (aluR8 .xor (.reg .b) s)

/-- XOR C (R406). -/
def execXorC (s : State) : Result := .next (aluR8 .xor (.reg .c) s)

/-- XOR D (R406). -/
def execXorD (s : State) : Result := .next (aluR8 .xor (.reg .d) s)

/-- XOR E (R406). -/
def execXorE (s : State) : Result := .next (aluR8 .xor (.reg .e) s)

/-- XOR H (R406). -/
def execXorH (s : State) : Result := .next (aluR8 .xor (.reg .h) s)

/-- XOR L (R406). -/
def execXorL (s : State) : Result := .next (aluR8 .xor (.reg .l) s)

/-- XOR (HL) (R406). -/
def execXorMhl (s : State) : Result := .next (aluR8 .xor .mhl s)

/-- XOR A (R406). -/
def execXorA (s : State) : Result := .next (aluR8 .xor (.reg .a) s)

/-- OR B (R407). -/
def execOrB (s : State) : Result := .next (aluR8 .or (.reg .b) s)

/-- OR C (R407). -/
def execOrC (s : State) : Result := .next (aluR8 .or (.reg .c) s)

/-- OR D (R407). -/
def execOrD (s : State) : Result := .next (aluR8 .or (.reg .d) s)

/-- OR E (R407). -/
def execOrE (s : State) : Result := .next (aluR8 .or (.reg .e) s)

/-- OR H (R407). -/
def execOrH (s : State) : Result := .next (aluR8 .or (.reg .h) s)

/-- OR L (R407). -/
def execOrL (s : State) : Result := .next (aluR8 .or (.reg .l) s)

/-- OR (HL) (R407). -/
def execOrMhl (s : State) : Result := .next (aluR8 .or .mhl s)

/-- OR A (R407). -/
def execOrA (s : State) : Result := .next (aluR8 .or (.reg .a) s)

/-- CP B (R408). -/
def execCpB (s : State) : Result := .next (aluR8 .cp (.reg .b) s)

/-- CP C (R408). -/
def execCpC (s : State) : Result := .next (aluR8 .cp (.reg .c) s)

/-- CP D (R408). -/
def execCpD (s : State) : Result := .next (aluR8 .cp (.reg .d) s)

/-- CP E (R408). -/
def execCpE (s : State) : Result := .next (aluR8 .cp (.reg .e) s)

/-- CP H (R408). -/
def execCpH (s : State) : Result := .next (aluR8 .cp (.reg .h) s)

/-- CP L (R408). -/
def execCpL (s : State) : Result := .next (aluR8 .cp (.reg .l) s)

/-- CP (HL) (R408). -/
def execCpMhl (s : State) : Result := .next (aluR8 .cp .mhl s)

/-- CP A (R408). -/
def execCpA (s : State) : Result := .next (aluR8 .cp (.reg .a) s)

/-- ADD A,d8 (R401). -/
def execAddAD8 (n : Byte) (s : State) : Result := .next (aluValue .add n s)

/-- ADC A,d8 (R402). -/
def execAdcAD8 (n : Byte) (s : State) : Result := .next (aluValue .adc n s)

/-- SUB d8 (R403). -/
def execSubD8 (n : Byte) (s : State) : Result := .next (aluValue .sub n s)

/-- SBC A,d8 (R404). -/
def execSbcAD8 (n : Byte) (s : State) : Result := .next (aluValue .sbc n s)

/-- AND d8 (R405). -/
def execAndD8 (n : Byte) (s : State) : Result := .next (aluValue .and n s)

/-- XOR d8 (R406). -/
def execXorD8 (n : Byte) (s : State) : Result := .next (aluValue .xor n s)

/-- OR d8 (R407). -/
def execOrD8 (n : Byte) (s : State) : Result := .next (aluValue .or n s)

/-- CP d8 (R408). -/
def execCpD8 (n : Byte) (s : State) : Result := .next (aluValue .cp n s)

end Sys2Proof.Machine
end

