-- ==== Sys2Proof/Machine/Bit.lean ====
section
/-! DEFINITION. Bit test, reset and set (43_bit.md). -/

namespace Sys2Proof.Machine

/-- BIT b,r: one read, no write (R550). -/
def bitR8 (b : BitIx) (r : R8) (s : State) : State :=
  let x := readR8 r s
  setFlags (bitFlags (x.1.getLsbD (bitIndex b)) x.2.cpu.flags) x.2

/-- RES b,r (R551). -/
def resR8 (b : BitIx) (r : R8) (s : State) : State :=
  let x := readR8 r s
  writeR8 r (x.1 &&& ~~~ ((1 : Byte) <<< bitIndex b)) x.2

/-- SET b,r (R552). -/
def setR8 (b : BitIx) (r : R8) (s : State) : State :=
  let x := readR8 r s
  writeR8 r (x.1 ||| ((1 : Byte) <<< bitIndex b)) x.2

/-! The meanings, one for each row. -/

/-- BIT 0,B (R550). -/
def execBit0B (s : State) : Result := .next (bitR8 .b0 (.reg .b) s)

/-- BIT 0,C (R550). -/
def execBit0C (s : State) : Result := .next (bitR8 .b0 (.reg .c) s)

/-- BIT 0,D (R550). -/
def execBit0D (s : State) : Result := .next (bitR8 .b0 (.reg .d) s)

/-- BIT 0,E (R550). -/
def execBit0E (s : State) : Result := .next (bitR8 .b0 (.reg .e) s)

/-- BIT 0,H (R550). -/
def execBit0H (s : State) : Result := .next (bitR8 .b0 (.reg .h) s)

/-- BIT 0,L (R550). -/
def execBit0L (s : State) : Result := .next (bitR8 .b0 (.reg .l) s)

/-- BIT 0,(HL) (R550). -/
def execBit0Mhl (s : State) : Result := .next (bitR8 .b0 .mhl s)

/-- BIT 0,A (R550). -/
def execBit0A (s : State) : Result := .next (bitR8 .b0 (.reg .a) s)

/-- BIT 1,B (R550). -/
def execBit1B (s : State) : Result := .next (bitR8 .b1 (.reg .b) s)

/-- BIT 1,C (R550). -/
def execBit1C (s : State) : Result := .next (bitR8 .b1 (.reg .c) s)

/-- BIT 1,D (R550). -/
def execBit1D (s : State) : Result := .next (bitR8 .b1 (.reg .d) s)

/-- BIT 1,E (R550). -/
def execBit1E (s : State) : Result := .next (bitR8 .b1 (.reg .e) s)

/-- BIT 1,H (R550). -/
def execBit1H (s : State) : Result := .next (bitR8 .b1 (.reg .h) s)

/-- BIT 1,L (R550). -/
def execBit1L (s : State) : Result := .next (bitR8 .b1 (.reg .l) s)

/-- BIT 1,(HL) (R550). -/
def execBit1Mhl (s : State) : Result := .next (bitR8 .b1 .mhl s)

/-- BIT 1,A (R550). -/
def execBit1A (s : State) : Result := .next (bitR8 .b1 (.reg .a) s)

/-- BIT 2,B (R550). -/
def execBit2B (s : State) : Result := .next (bitR8 .b2 (.reg .b) s)

/-- BIT 2,C (R550). -/
def execBit2C (s : State) : Result := .next (bitR8 .b2 (.reg .c) s)

/-- BIT 2,D (R550). -/
def execBit2D (s : State) : Result := .next (bitR8 .b2 (.reg .d) s)

/-- BIT 2,E (R550). -/
def execBit2E (s : State) : Result := .next (bitR8 .b2 (.reg .e) s)

/-- BIT 2,H (R550). -/
def execBit2H (s : State) : Result := .next (bitR8 .b2 (.reg .h) s)

/-- BIT 2,L (R550). -/
def execBit2L (s : State) : Result := .next (bitR8 .b2 (.reg .l) s)

/-- BIT 2,(HL) (R550). -/
def execBit2Mhl (s : State) : Result := .next (bitR8 .b2 .mhl s)

/-- BIT 2,A (R550). -/
def execBit2A (s : State) : Result := .next (bitR8 .b2 (.reg .a) s)

/-- BIT 3,B (R550). -/
def execBit3B (s : State) : Result := .next (bitR8 .b3 (.reg .b) s)

/-- BIT 3,C (R550). -/
def execBit3C (s : State) : Result := .next (bitR8 .b3 (.reg .c) s)

/-- BIT 3,D (R550). -/
def execBit3D (s : State) : Result := .next (bitR8 .b3 (.reg .d) s)

/-- BIT 3,E (R550). -/
def execBit3E (s : State) : Result := .next (bitR8 .b3 (.reg .e) s)

/-- BIT 3,H (R550). -/
def execBit3H (s : State) : Result := .next (bitR8 .b3 (.reg .h) s)

/-- BIT 3,L (R550). -/
def execBit3L (s : State) : Result := .next (bitR8 .b3 (.reg .l) s)

/-- BIT 3,(HL) (R550). -/
def execBit3Mhl (s : State) : Result := .next (bitR8 .b3 .mhl s)

/-- BIT 3,A (R550). -/
def execBit3A (s : State) : Result := .next (bitR8 .b3 (.reg .a) s)

/-- BIT 4,B (R550). -/
def execBit4B (s : State) : Result := .next (bitR8 .b4 (.reg .b) s)

/-- BIT 4,C (R550). -/
def execBit4C (s : State) : Result := .next (bitR8 .b4 (.reg .c) s)

/-- BIT 4,D (R550). -/
def execBit4D (s : State) : Result := .next (bitR8 .b4 (.reg .d) s)

/-- BIT 4,E (R550). -/
def execBit4E (s : State) : Result := .next (bitR8 .b4 (.reg .e) s)

/-- BIT 4,H (R550). -/
def execBit4H (s : State) : Result := .next (bitR8 .b4 (.reg .h) s)

/-- BIT 4,L (R550). -/
def execBit4L (s : State) : Result := .next (bitR8 .b4 (.reg .l) s)

/-- BIT 4,(HL) (R550). -/
def execBit4Mhl (s : State) : Result := .next (bitR8 .b4 .mhl s)

/-- BIT 4,A (R550). -/
def execBit4A (s : State) : Result := .next (bitR8 .b4 (.reg .a) s)

/-- BIT 5,B (R550). -/
def execBit5B (s : State) : Result := .next (bitR8 .b5 (.reg .b) s)

/-- BIT 5,C (R550). -/
def execBit5C (s : State) : Result := .next (bitR8 .b5 (.reg .c) s)

/-- BIT 5,D (R550). -/
def execBit5D (s : State) : Result := .next (bitR8 .b5 (.reg .d) s)

/-- BIT 5,E (R550). -/
def execBit5E (s : State) : Result := .next (bitR8 .b5 (.reg .e) s)

/-- BIT 5,H (R550). -/
def execBit5H (s : State) : Result := .next (bitR8 .b5 (.reg .h) s)

/-- BIT 5,L (R550). -/
def execBit5L (s : State) : Result := .next (bitR8 .b5 (.reg .l) s)

/-- BIT 5,(HL) (R550). -/
def execBit5Mhl (s : State) : Result := .next (bitR8 .b5 .mhl s)

/-- BIT 5,A (R550). -/
def execBit5A (s : State) : Result := .next (bitR8 .b5 (.reg .a) s)

/-- BIT 6,B (R550). -/
def execBit6B (s : State) : Result := .next (bitR8 .b6 (.reg .b) s)

/-- BIT 6,C (R550). -/
def execBit6C (s : State) : Result := .next (bitR8 .b6 (.reg .c) s)

/-- BIT 6,D (R550). -/
def execBit6D (s : State) : Result := .next (bitR8 .b6 (.reg .d) s)

/-- BIT 6,E (R550). -/
def execBit6E (s : State) : Result := .next (bitR8 .b6 (.reg .e) s)

/-- BIT 6,H (R550). -/
def execBit6H (s : State) : Result := .next (bitR8 .b6 (.reg .h) s)

/-- BIT 6,L (R550). -/
def execBit6L (s : State) : Result := .next (bitR8 .b6 (.reg .l) s)

/-- BIT 6,(HL) (R550). -/
def execBit6Mhl (s : State) : Result := .next (bitR8 .b6 .mhl s)

/-- BIT 6,A (R550). -/
def execBit6A (s : State) : Result := .next (bitR8 .b6 (.reg .a) s)

/-- BIT 7,B (R550). -/
def execBit7B (s : State) : Result := .next (bitR8 .b7 (.reg .b) s)

/-- BIT 7,C (R550). -/
def execBit7C (s : State) : Result := .next (bitR8 .b7 (.reg .c) s)

/-- BIT 7,D (R550). -/
def execBit7D (s : State) : Result := .next (bitR8 .b7 (.reg .d) s)

/-- BIT 7,E (R550). -/
def execBit7E (s : State) : Result := .next (bitR8 .b7 (.reg .e) s)

/-- BIT 7,H (R550). -/
def execBit7H (s : State) : Result := .next (bitR8 .b7 (.reg .h) s)

/-- BIT 7,L (R550). -/
def execBit7L (s : State) : Result := .next (bitR8 .b7 (.reg .l) s)

/-- BIT 7,(HL) (R550). -/
def execBit7Mhl (s : State) : Result := .next (bitR8 .b7 .mhl s)

/-- BIT 7,A (R550). -/
def execBit7A (s : State) : Result := .next (bitR8 .b7 (.reg .a) s)

/-- RES 0,B (R551). -/
def execRes0B (s : State) : Result := .next (resR8 .b0 (.reg .b) s)

/-- RES 0,C (R551). -/
def execRes0C (s : State) : Result := .next (resR8 .b0 (.reg .c) s)

/-- RES 0,D (R551). -/
def execRes0D (s : State) : Result := .next (resR8 .b0 (.reg .d) s)

/-- RES 0,E (R551). -/
def execRes0E (s : State) : Result := .next (resR8 .b0 (.reg .e) s)

/-- RES 0,H (R551). -/
def execRes0H (s : State) : Result := .next (resR8 .b0 (.reg .h) s)

/-- RES 0,L (R551). -/
def execRes0L (s : State) : Result := .next (resR8 .b0 (.reg .l) s)

/-- RES 0,(HL) (R551). -/
def execRes0Mhl (s : State) : Result := .next (resR8 .b0 .mhl s)

/-- RES 0,A (R551). -/
def execRes0A (s : State) : Result := .next (resR8 .b0 (.reg .a) s)

/-- RES 1,B (R551). -/
def execRes1B (s : State) : Result := .next (resR8 .b1 (.reg .b) s)

/-- RES 1,C (R551). -/
def execRes1C (s : State) : Result := .next (resR8 .b1 (.reg .c) s)

/-- RES 1,D (R551). -/
def execRes1D (s : State) : Result := .next (resR8 .b1 (.reg .d) s)

/-- RES 1,E (R551). -/
def execRes1E (s : State) : Result := .next (resR8 .b1 (.reg .e) s)

/-- RES 1,H (R551). -/
def execRes1H (s : State) : Result := .next (resR8 .b1 (.reg .h) s)

/-- RES 1,L (R551). -/
def execRes1L (s : State) : Result := .next (resR8 .b1 (.reg .l) s)

/-- RES 1,(HL) (R551). -/
def execRes1Mhl (s : State) : Result := .next (resR8 .b1 .mhl s)

/-- RES 1,A (R551). -/
def execRes1A (s : State) : Result := .next (resR8 .b1 (.reg .a) s)

/-- RES 2,B (R551). -/
def execRes2B (s : State) : Result := .next (resR8 .b2 (.reg .b) s)

/-- RES 2,C (R551). -/
def execRes2C (s : State) : Result := .next (resR8 .b2 (.reg .c) s)

/-- RES 2,D (R551). -/
def execRes2D (s : State) : Result := .next (resR8 .b2 (.reg .d) s)

/-- RES 2,E (R551). -/
def execRes2E (s : State) : Result := .next (resR8 .b2 (.reg .e) s)

/-- RES 2,H (R551). -/
def execRes2H (s : State) : Result := .next (resR8 .b2 (.reg .h) s)

/-- RES 2,L (R551). -/
def execRes2L (s : State) : Result := .next (resR8 .b2 (.reg .l) s)

/-- RES 2,(HL) (R551). -/
def execRes2Mhl (s : State) : Result := .next (resR8 .b2 .mhl s)

/-- RES 2,A (R551). -/
def execRes2A (s : State) : Result := .next (resR8 .b2 (.reg .a) s)

/-- RES 3,B (R551). -/
def execRes3B (s : State) : Result := .next (resR8 .b3 (.reg .b) s)

/-- RES 3,C (R551). -/
def execRes3C (s : State) : Result := .next (resR8 .b3 (.reg .c) s)

/-- RES 3,D (R551). -/
def execRes3D (s : State) : Result := .next (resR8 .b3 (.reg .d) s)

/-- RES 3,E (R551). -/
def execRes3E (s : State) : Result := .next (resR8 .b3 (.reg .e) s)

/-- RES 3,H (R551). -/
def execRes3H (s : State) : Result := .next (resR8 .b3 (.reg .h) s)

/-- RES 3,L (R551). -/
def execRes3L (s : State) : Result := .next (resR8 .b3 (.reg .l) s)

/-- RES 3,(HL) (R551). -/
def execRes3Mhl (s : State) : Result := .next (resR8 .b3 .mhl s)

/-- RES 3,A (R551). -/
def execRes3A (s : State) : Result := .next (resR8 .b3 (.reg .a) s)

/-- RES 4,B (R551). -/
def execRes4B (s : State) : Result := .next (resR8 .b4 (.reg .b) s)

/-- RES 4,C (R551). -/
def execRes4C (s : State) : Result := .next (resR8 .b4 (.reg .c) s)

/-- RES 4,D (R551). -/
def execRes4D (s : State) : Result := .next (resR8 .b4 (.reg .d) s)

/-- RES 4,E (R551). -/
def execRes4E (s : State) : Result := .next (resR8 .b4 (.reg .e) s)

/-- RES 4,H (R551). -/
def execRes4H (s : State) : Result := .next (resR8 .b4 (.reg .h) s)

/-- RES 4,L (R551). -/
def execRes4L (s : State) : Result := .next (resR8 .b4 (.reg .l) s)

/-- RES 4,(HL) (R551). -/
def execRes4Mhl (s : State) : Result := .next (resR8 .b4 .mhl s)

/-- RES 4,A (R551). -/
def execRes4A (s : State) : Result := .next (resR8 .b4 (.reg .a) s)

/-- RES 5,B (R551). -/
def execRes5B (s : State) : Result := .next (resR8 .b5 (.reg .b) s)

/-- RES 5,C (R551). -/
def execRes5C (s : State) : Result := .next (resR8 .b5 (.reg .c) s)

/-- RES 5,D (R551). -/
def execRes5D (s : State) : Result := .next (resR8 .b5 (.reg .d) s)

/-- RES 5,E (R551). -/
def execRes5E (s : State) : Result := .next (resR8 .b5 (.reg .e) s)

/-- RES 5,H (R551). -/
def execRes5H (s : State) : Result := .next (resR8 .b5 (.reg .h) s)

/-- RES 5,L (R551). -/
def execRes5L (s : State) : Result := .next (resR8 .b5 (.reg .l) s)

/-- RES 5,(HL) (R551). -/
def execRes5Mhl (s : State) : Result := .next (resR8 .b5 .mhl s)

/-- RES 5,A (R551). -/
def execRes5A (s : State) : Result := .next (resR8 .b5 (.reg .a) s)

/-- RES 6,B (R551). -/
def execRes6B (s : State) : Result := .next (resR8 .b6 (.reg .b) s)

/-- RES 6,C (R551). -/
def execRes6C (s : State) : Result := .next (resR8 .b6 (.reg .c) s)

/-- RES 6,D (R551). -/
def execRes6D (s : State) : Result := .next (resR8 .b6 (.reg .d) s)

/-- RES 6,E (R551). -/
def execRes6E (s : State) : Result := .next (resR8 .b6 (.reg .e) s)

/-- RES 6,H (R551). -/
def execRes6H (s : State) : Result := .next (resR8 .b6 (.reg .h) s)

/-- RES 6,L (R551). -/
def execRes6L (s : State) : Result := .next (resR8 .b6 (.reg .l) s)

/-- RES 6,(HL) (R551). -/
def execRes6Mhl (s : State) : Result := .next (resR8 .b6 .mhl s)

/-- RES 6,A (R551). -/
def execRes6A (s : State) : Result := .next (resR8 .b6 (.reg .a) s)

/-- RES 7,B (R551). -/
def execRes7B (s : State) : Result := .next (resR8 .b7 (.reg .b) s)

/-- RES 7,C (R551). -/
def execRes7C (s : State) : Result := .next (resR8 .b7 (.reg .c) s)

/-- RES 7,D (R551). -/
def execRes7D (s : State) : Result := .next (resR8 .b7 (.reg .d) s)

/-- RES 7,E (R551). -/
def execRes7E (s : State) : Result := .next (resR8 .b7 (.reg .e) s)

/-- RES 7,H (R551). -/
def execRes7H (s : State) : Result := .next (resR8 .b7 (.reg .h) s)

/-- RES 7,L (R551). -/
def execRes7L (s : State) : Result := .next (resR8 .b7 (.reg .l) s)

/-- RES 7,(HL) (R551). -/
def execRes7Mhl (s : State) : Result := .next (resR8 .b7 .mhl s)

/-- RES 7,A (R551). -/
def execRes7A (s : State) : Result := .next (resR8 .b7 (.reg .a) s)

/-- SET 0,B (R552). -/
def execSet0B (s : State) : Result := .next (setR8 .b0 (.reg .b) s)

/-- SET 0,C (R552). -/
def execSet0C (s : State) : Result := .next (setR8 .b0 (.reg .c) s)

/-- SET 0,D (R552). -/
def execSet0D (s : State) : Result := .next (setR8 .b0 (.reg .d) s)

/-- SET 0,E (R552). -/
def execSet0E (s : State) : Result := .next (setR8 .b0 (.reg .e) s)

/-- SET 0,H (R552). -/
def execSet0H (s : State) : Result := .next (setR8 .b0 (.reg .h) s)

/-- SET 0,L (R552). -/
def execSet0L (s : State) : Result := .next (setR8 .b0 (.reg .l) s)

/-- SET 0,(HL) (R552). -/
def execSet0Mhl (s : State) : Result := .next (setR8 .b0 .mhl s)

/-- SET 0,A (R552). -/
def execSet0A (s : State) : Result := .next (setR8 .b0 (.reg .a) s)

/-- SET 1,B (R552). -/
def execSet1B (s : State) : Result := .next (setR8 .b1 (.reg .b) s)

/-- SET 1,C (R552). -/
def execSet1C (s : State) : Result := .next (setR8 .b1 (.reg .c) s)

/-- SET 1,D (R552). -/
def execSet1D (s : State) : Result := .next (setR8 .b1 (.reg .d) s)

/-- SET 1,E (R552). -/
def execSet1E (s : State) : Result := .next (setR8 .b1 (.reg .e) s)

/-- SET 1,H (R552). -/
def execSet1H (s : State) : Result := .next (setR8 .b1 (.reg .h) s)

/-- SET 1,L (R552). -/
def execSet1L (s : State) : Result := .next (setR8 .b1 (.reg .l) s)

/-- SET 1,(HL) (R552). -/
def execSet1Mhl (s : State) : Result := .next (setR8 .b1 .mhl s)

/-- SET 1,A (R552). -/
def execSet1A (s : State) : Result := .next (setR8 .b1 (.reg .a) s)

/-- SET 2,B (R552). -/
def execSet2B (s : State) : Result := .next (setR8 .b2 (.reg .b) s)

/-- SET 2,C (R552). -/
def execSet2C (s : State) : Result := .next (setR8 .b2 (.reg .c) s)

/-- SET 2,D (R552). -/
def execSet2D (s : State) : Result := .next (setR8 .b2 (.reg .d) s)

/-- SET 2,E (R552). -/
def execSet2E (s : State) : Result := .next (setR8 .b2 (.reg .e) s)

/-- SET 2,H (R552). -/
def execSet2H (s : State) : Result := .next (setR8 .b2 (.reg .h) s)

/-- SET 2,L (R552). -/
def execSet2L (s : State) : Result := .next (setR8 .b2 (.reg .l) s)

/-- SET 2,(HL) (R552). -/
def execSet2Mhl (s : State) : Result := .next (setR8 .b2 .mhl s)

/-- SET 2,A (R552). -/
def execSet2A (s : State) : Result := .next (setR8 .b2 (.reg .a) s)

/-- SET 3,B (R552). -/
def execSet3B (s : State) : Result := .next (setR8 .b3 (.reg .b) s)

/-- SET 3,C (R552). -/
def execSet3C (s : State) : Result := .next (setR8 .b3 (.reg .c) s)

/-- SET 3,D (R552). -/
def execSet3D (s : State) : Result := .next (setR8 .b3 (.reg .d) s)

/-- SET 3,E (R552). -/
def execSet3E (s : State) : Result := .next (setR8 .b3 (.reg .e) s)

/-- SET 3,H (R552). -/
def execSet3H (s : State) : Result := .next (setR8 .b3 (.reg .h) s)

/-- SET 3,L (R552). -/
def execSet3L (s : State) : Result := .next (setR8 .b3 (.reg .l) s)

/-- SET 3,(HL) (R552). -/
def execSet3Mhl (s : State) : Result := .next (setR8 .b3 .mhl s)

/-- SET 3,A (R552). -/
def execSet3A (s : State) : Result := .next (setR8 .b3 (.reg .a) s)

/-- SET 4,B (R552). -/
def execSet4B (s : State) : Result := .next (setR8 .b4 (.reg .b) s)

/-- SET 4,C (R552). -/
def execSet4C (s : State) : Result := .next (setR8 .b4 (.reg .c) s)

/-- SET 4,D (R552). -/
def execSet4D (s : State) : Result := .next (setR8 .b4 (.reg .d) s)

/-- SET 4,E (R552). -/
def execSet4E (s : State) : Result := .next (setR8 .b4 (.reg .e) s)

/-- SET 4,H (R552). -/
def execSet4H (s : State) : Result := .next (setR8 .b4 (.reg .h) s)

/-- SET 4,L (R552). -/
def execSet4L (s : State) : Result := .next (setR8 .b4 (.reg .l) s)

/-- SET 4,(HL) (R552). -/
def execSet4Mhl (s : State) : Result := .next (setR8 .b4 .mhl s)

/-- SET 4,A (R552). -/
def execSet4A (s : State) : Result := .next (setR8 .b4 (.reg .a) s)

/-- SET 5,B (R552). -/
def execSet5B (s : State) : Result := .next (setR8 .b5 (.reg .b) s)

/-- SET 5,C (R552). -/
def execSet5C (s : State) : Result := .next (setR8 .b5 (.reg .c) s)

/-- SET 5,D (R552). -/
def execSet5D (s : State) : Result := .next (setR8 .b5 (.reg .d) s)

/-- SET 5,E (R552). -/
def execSet5E (s : State) : Result := .next (setR8 .b5 (.reg .e) s)

/-- SET 5,H (R552). -/
def execSet5H (s : State) : Result := .next (setR8 .b5 (.reg .h) s)

/-- SET 5,L (R552). -/
def execSet5L (s : State) : Result := .next (setR8 .b5 (.reg .l) s)

/-- SET 5,(HL) (R552). -/
def execSet5Mhl (s : State) : Result := .next (setR8 .b5 .mhl s)

/-- SET 5,A (R552). -/
def execSet5A (s : State) : Result := .next (setR8 .b5 (.reg .a) s)

/-- SET 6,B (R552). -/
def execSet6B (s : State) : Result := .next (setR8 .b6 (.reg .b) s)

/-- SET 6,C (R552). -/
def execSet6C (s : State) : Result := .next (setR8 .b6 (.reg .c) s)

/-- SET 6,D (R552). -/
def execSet6D (s : State) : Result := .next (setR8 .b6 (.reg .d) s)

/-- SET 6,E (R552). -/
def execSet6E (s : State) : Result := .next (setR8 .b6 (.reg .e) s)

/-- SET 6,H (R552). -/
def execSet6H (s : State) : Result := .next (setR8 .b6 (.reg .h) s)

/-- SET 6,L (R552). -/
def execSet6L (s : State) : Result := .next (setR8 .b6 (.reg .l) s)

/-- SET 6,(HL) (R552). -/
def execSet6Mhl (s : State) : Result := .next (setR8 .b6 .mhl s)

/-- SET 6,A (R552). -/
def execSet6A (s : State) : Result := .next (setR8 .b6 (.reg .a) s)

/-- SET 7,B (R552). -/
def execSet7B (s : State) : Result := .next (setR8 .b7 (.reg .b) s)

/-- SET 7,C (R552). -/
def execSet7C (s : State) : Result := .next (setR8 .b7 (.reg .c) s)

/-- SET 7,D (R552). -/
def execSet7D (s : State) : Result := .next (setR8 .b7 (.reg .d) s)

/-- SET 7,E (R552). -/
def execSet7E (s : State) : Result := .next (setR8 .b7 (.reg .e) s)

/-- SET 7,H (R552). -/
def execSet7H (s : State) : Result := .next (setR8 .b7 (.reg .h) s)

/-- SET 7,L (R552). -/
def execSet7L (s : State) : Result := .next (setR8 .b7 (.reg .l) s)

/-- SET 7,(HL) (R552). -/
def execSet7Mhl (s : State) : Result := .next (setR8 .b7 .mhl s)

/-- SET 7,A (R552). -/
def execSet7A (s : State) : Result := .next (setR8 .b7 (.reg .a) s)

end Sys2Proof.Machine
end

