-- ==== Sys2Proof/Machine/Control.lean ====
section
/-! DEFINITION. Control transfer and stack (44_control.md). `PC` is the address after the instruction (R107). -/

namespace Sys2Proof.Machine

/-- A conditional form: what the unconditional form does, and `taken`, if the condition holds (R602). -/
def ifCond (cc : Cond) (act : State → State) (s : State) : State :=
  if condHolds cc s then setTaken true (act s) else s

/-- JR: the displacement is added to the address after the instruction (R608). -/
def jumpRel (u : Byte) (s : State) : State := setPc (s.cpu.pc + sext16 u) s

/-- CALL and RST: push the return address, then jump (R610, R616). -/
def callTo (target : Word) (s : State) : State := setPc target (push16 s.cpu.pc s)

/-- RET and RETI (R612, R614). -/
def returnPop (s : State) : State :=
  let r := pop16 s
  setPc r.1 r.2

/-- PUSH qq (R621). -/
def pushQQ (q : QQ) (s : State) : State := push16 (pair (qqPair q) s) s

/-- POP qq (R622). -/
def popQQ (q : QQ) (s : State) : State :=
  let r := pop16 s
  setPair (qqPair q) r.1 r.2

/-! The meanings, one for each row. -/

/-- JR e8 (R608). -/
def execJrE8 (n : Byte) (s : State) : Result := .next (jumpRel n s)

/-- JR NZ,e8 (R609). -/
def execJrNzE8 (n : Byte) (s : State) : Result := .next (ifCond .nz (jumpRel n) s)

/-- JR Z,e8 (R609). -/
def execJrZE8 (n : Byte) (s : State) : Result := .next (ifCond .z (jumpRel n) s)

/-- JR NC,e8 (R609). -/
def execJrNcE8 (n : Byte) (s : State) : Result := .next (ifCond .nc (jumpRel n) s)

/-- JR C,e8 (R609). -/
def execJrCE8 (n : Byte) (s : State) : Result := .next (ifCond .c (jumpRel n) s)

/-- RET NZ (R613). -/
def execRetNz (s : State) : Result := .next (ifCond .nz returnPop s)

/-- POP BC (R622). -/
def execPopBc (s : State) : Result := .next (popQQ .bc s)

/-- JP NZ,a16 (R606). -/
def execJpNzA16 (nn : Word) (s : State) : Result := .next (ifCond .nz (setPc nn) s)

/-- JP a16 (R605). -/
def execJpA16 (nn : Word) (s : State) : Result := .next (setPc nn s)

/-- CALL NZ,a16 (R611). -/
def execCallNzA16 (nn : Word) (s : State) : Result := .next (ifCond .nz (callTo nn) s)

/-- PUSH BC (R621). -/
def execPushBc (s : State) : Result := .next (pushQQ .bc s)

/-- RST 0x00 (R616). -/
def execRst00 (s : State) : Result := .next (callTo (rstTarget .t00) s)

/-- RET Z (R613). -/
def execRetZ (s : State) : Result := .next (ifCond .z returnPop s)

/-- RET (R612). -/
def execRet (s : State) : Result := .next (returnPop s)

/-- JP Z,a16 (R606). -/
def execJpZA16 (nn : Word) (s : State) : Result := .next (ifCond .z (setPc nn) s)

/-- CALL Z,a16 (R611). -/
def execCallZA16 (nn : Word) (s : State) : Result := .next (ifCond .z (callTo nn) s)

/-- CALL a16 (R610). -/
def execCallA16 (nn : Word) (s : State) : Result := .next (callTo nn s)

/-- RST 0x08 (R616). -/
def execRst08 (s : State) : Result := .next (callTo (rstTarget .t08) s)

/-- RET NC (R613). -/
def execRetNc (s : State) : Result := .next (ifCond .nc returnPop s)

/-- POP DE (R622). -/
def execPopDe (s : State) : Result := .next (popQQ .de s)

/-- JP NC,a16 (R606). -/
def execJpNcA16 (nn : Word) (s : State) : Result := .next (ifCond .nc (setPc nn) s)

/-- CALL NC,a16 (R611). -/
def execCallNcA16 (nn : Word) (s : State) : Result := .next (ifCond .nc (callTo nn) s)

/-- PUSH DE (R621). -/
def execPushDe (s : State) : Result := .next (pushQQ .de s)

/-- RST 0x10 (R616). -/
def execRst10 (s : State) : Result := .next (callTo (rstTarget .t10) s)

/-- RET C (R613). -/
def execRetC (s : State) : Result := .next (ifCond .c returnPop s)

/-- RETI (R614). -/
def execReti (s : State) : Result := .next (returnPop s)

/-- JP C,a16 (R606). -/
def execJpCA16 (nn : Word) (s : State) : Result := .next (ifCond .c (setPc nn) s)

/-- CALL C,a16 (R611). -/
def execCallCA16 (nn : Word) (s : State) : Result := .next (ifCond .c (callTo nn) s)

/-- RST 0x18 (R616). -/
def execRst18 (s : State) : Result := .next (callTo (rstTarget .t18) s)

/-- POP HL (R622). -/
def execPopHl (s : State) : Result := .next (popQQ .hl s)

/-- PUSH HL (R621). -/
def execPushHl (s : State) : Result := .next (pushQQ .hl s)

/-- RST 0x20 (R616). -/
def execRst20 (s : State) : Result := .next (callTo (rstTarget .t20) s)

/-- JP HL (R607). -/
def execJpHl (s : State) : Result := .next (setPc (pair .hl s) s)

/-- RST 0x28 (R616). -/
def execRst28 (s : State) : Result := .next (callTo (rstTarget .t28) s)

/-- POP AF (R622). -/
def execPopAf (s : State) : Result := .next (popQQ .af s)

/-- PUSH AF (R621). -/
def execPushAf (s : State) : Result := .next (pushQQ .af s)

/-- RST 0x30 (R616). -/
def execRst30 (s : State) : Result := .next (callTo (rstTarget .t30) s)

/-- RST 0x38 (R616). -/
def execRst38 (s : State) : Result := .next (callTo (rstTarget .t38) s)

end Sys2Proof.Machine
end

