-- ==== Sys2Proof/Machine/Rotate.lean ====
section
/-! DEFINITION. Rotates and shifts (42_rotate_shift.md). -/

namespace Sys2Proof.Machine

/-- The result of a rotate or shift of `v` with old carry `c` (R505 to R512). -/
def rotResult (op : RotOp) (v : Byte) (c : Bool) : Byte :=
  match op with
  | .rlc => (v <<< 1) ||| (v >>> 7)
  | .rrc => (v >>> 1) ||| (v <<< 7)
  | .rl => (v <<< 1) ||| BitVec.ofNat 8 c.toNat
  | .rr => (v >>> 1) ||| BitVec.ofNat 8 (0x80 * c.toNat)
  | .sla => v <<< 1
  | .sra => (v >>> 1) ||| (v &&& 0x80)
  | .swap => ((v &&& 0x0F) <<< 4) ||| (v >>> 4)
  | .srl => v >>> 1

/-- The bit that goes to C: bit 7 of a left form, bit 0 of a right form, 0 of SWAP (R505 to R512). -/
def rotOut (op : RotOp) (v : Byte) : Bool :=
  match op with
  | .rlc => v.getLsbD 7
  | .rrc => v.getLsbD 0
  | .rl => v.getLsbD 7
  | .rr => v.getLsbD 0
  | .sla => v.getLsbD 7
  | .sra => v.getLsbD 0
  | .swap => false
  | .srl => v.getLsbD 0

/-- A CB rotate or shift of `r` (R504): one read, one write, then the flags. -/
def rotR8 (op : RotOp) (r : R8) (s : State) : State :=
  let x := readR8 r s
  let res := rotResult op x.1 (getFlag .c s)
  setFlags (rotFlags res (rotOut op x.1)) (writeR8 r res x.2)

/-- An accumulator rotate (R500 to R503): Z is cleared whatever the result. -/
def rotAcc (op : RotOp) (s : State) : State :=
  setFlags (rotAccFlags (rotOut op (reg .a s))) (setReg .a (rotResult op (reg .a s) (getFlag .c s)) s)

/-! The meanings, one for each row. -/

/-- RLCA (R500). -/
def execRlca (s : State) : Result := .next (rotAcc .rlc s)

/-- RRCA (R501). -/
def execRrca (s : State) : Result := .next (rotAcc .rrc s)

/-- RLA (R502). -/
def execRla (s : State) : Result := .next (rotAcc .rl s)

/-- RRA (R503). -/
def execRra (s : State) : Result := .next (rotAcc .rr s)

/-- RLC B (R505). -/
def execRlcB (s : State) : Result := .next (rotR8 .rlc (.reg .b) s)

/-- RLC C (R505). -/
def execRlcC (s : State) : Result := .next (rotR8 .rlc (.reg .c) s)

/-- RLC D (R505). -/
def execRlcD (s : State) : Result := .next (rotR8 .rlc (.reg .d) s)

/-- RLC E (R505). -/
def execRlcE (s : State) : Result := .next (rotR8 .rlc (.reg .e) s)

/-- RLC H (R505). -/
def execRlcH (s : State) : Result := .next (rotR8 .rlc (.reg .h) s)

/-- RLC L (R505). -/
def execRlcL (s : State) : Result := .next (rotR8 .rlc (.reg .l) s)

/-- RLC (HL) (R505). -/
def execRlcMhl (s : State) : Result := .next (rotR8 .rlc .mhl s)

/-- RLC A (R505). -/
def execRlcA (s : State) : Result := .next (rotR8 .rlc (.reg .a) s)

/-- RRC B (R506). -/
def execRrcB (s : State) : Result := .next (rotR8 .rrc (.reg .b) s)

/-- RRC C (R506). -/
def execRrcC (s : State) : Result := .next (rotR8 .rrc (.reg .c) s)

/-- RRC D (R506). -/
def execRrcD (s : State) : Result := .next (rotR8 .rrc (.reg .d) s)

/-- RRC E (R506). -/
def execRrcE (s : State) : Result := .next (rotR8 .rrc (.reg .e) s)

/-- RRC H (R506). -/
def execRrcH (s : State) : Result := .next (rotR8 .rrc (.reg .h) s)

/-- RRC L (R506). -/
def execRrcL (s : State) : Result := .next (rotR8 .rrc (.reg .l) s)

/-- RRC (HL) (R506). -/
def execRrcMhl (s : State) : Result := .next (rotR8 .rrc .mhl s)

/-- RRC A (R506). -/
def execRrcA (s : State) : Result := .next (rotR8 .rrc (.reg .a) s)

/-- RL B (R507). -/
def execRlB (s : State) : Result := .next (rotR8 .rl (.reg .b) s)

/-- RL C (R507). -/
def execRlC (s : State) : Result := .next (rotR8 .rl (.reg .c) s)

/-- RL D (R507). -/
def execRlD (s : State) : Result := .next (rotR8 .rl (.reg .d) s)

/-- RL E (R507). -/
def execRlE (s : State) : Result := .next (rotR8 .rl (.reg .e) s)

/-- RL H (R507). -/
def execRlH (s : State) : Result := .next (rotR8 .rl (.reg .h) s)

/-- RL L (R507). -/
def execRlL (s : State) : Result := .next (rotR8 .rl (.reg .l) s)

/-- RL (HL) (R507). -/
def execRlMhl (s : State) : Result := .next (rotR8 .rl .mhl s)

/-- RL A (R507). -/
def execRlA (s : State) : Result := .next (rotR8 .rl (.reg .a) s)

/-- RR B (R508). -/
def execRrB (s : State) : Result := .next (rotR8 .rr (.reg .b) s)

/-- RR C (R508). -/
def execRrC (s : State) : Result := .next (rotR8 .rr (.reg .c) s)

/-- RR D (R508). -/
def execRrD (s : State) : Result := .next (rotR8 .rr (.reg .d) s)

/-- RR E (R508). -/
def execRrE (s : State) : Result := .next (rotR8 .rr (.reg .e) s)

/-- RR H (R508). -/
def execRrH (s : State) : Result := .next (rotR8 .rr (.reg .h) s)

/-- RR L (R508). -/
def execRrL (s : State) : Result := .next (rotR8 .rr (.reg .l) s)

/-- RR (HL) (R508). -/
def execRrMhl (s : State) : Result := .next (rotR8 .rr .mhl s)

/-- RR A (R508). -/
def execRrA (s : State) : Result := .next (rotR8 .rr (.reg .a) s)

/-- SLA B (R509). -/
def execSlaB (s : State) : Result := .next (rotR8 .sla (.reg .b) s)

/-- SLA C (R509). -/
def execSlaC (s : State) : Result := .next (rotR8 .sla (.reg .c) s)

/-- SLA D (R509). -/
def execSlaD (s : State) : Result := .next (rotR8 .sla (.reg .d) s)

/-- SLA E (R509). -/
def execSlaE (s : State) : Result := .next (rotR8 .sla (.reg .e) s)

/-- SLA H (R509). -/
def execSlaH (s : State) : Result := .next (rotR8 .sla (.reg .h) s)

/-- SLA L (R509). -/
def execSlaL (s : State) : Result := .next (rotR8 .sla (.reg .l) s)

/-- SLA (HL) (R509). -/
def execSlaMhl (s : State) : Result := .next (rotR8 .sla .mhl s)

/-- SLA A (R509). -/
def execSlaA (s : State) : Result := .next (rotR8 .sla (.reg .a) s)

/-- SRA B (R510). -/
def execSraB (s : State) : Result := .next (rotR8 .sra (.reg .b) s)

/-- SRA C (R510). -/
def execSraC (s : State) : Result := .next (rotR8 .sra (.reg .c) s)

/-- SRA D (R510). -/
def execSraD (s : State) : Result := .next (rotR8 .sra (.reg .d) s)

/-- SRA E (R510). -/
def execSraE (s : State) : Result := .next (rotR8 .sra (.reg .e) s)

/-- SRA H (R510). -/
def execSraH (s : State) : Result := .next (rotR8 .sra (.reg .h) s)

/-- SRA L (R510). -/
def execSraL (s : State) : Result := .next (rotR8 .sra (.reg .l) s)

/-- SRA (HL) (R510). -/
def execSraMhl (s : State) : Result := .next (rotR8 .sra .mhl s)

/-- SRA A (R510). -/
def execSraA (s : State) : Result := .next (rotR8 .sra (.reg .a) s)

/-- SWAP B (R511). -/
def execSwapB (s : State) : Result := .next (rotR8 .swap (.reg .b) s)

/-- SWAP C (R511). -/
def execSwapC (s : State) : Result := .next (rotR8 .swap (.reg .c) s)

/-- SWAP D (R511). -/
def execSwapD (s : State) : Result := .next (rotR8 .swap (.reg .d) s)

/-- SWAP E (R511). -/
def execSwapE (s : State) : Result := .next (rotR8 .swap (.reg .e) s)

/-- SWAP H (R511). -/
def execSwapH (s : State) : Result := .next (rotR8 .swap (.reg .h) s)

/-- SWAP L (R511). -/
def execSwapL (s : State) : Result := .next (rotR8 .swap (.reg .l) s)

/-- SWAP (HL) (R511). -/
def execSwapMhl (s : State) : Result := .next (rotR8 .swap .mhl s)

/-- SWAP A (R511). -/
def execSwapA (s : State) : Result := .next (rotR8 .swap (.reg .a) s)

/-- SRL B (R512). -/
def execSrlB (s : State) : Result := .next (rotR8 .srl (.reg .b) s)

/-- SRL C (R512). -/
def execSrlC (s : State) : Result := .next (rotR8 .srl (.reg .c) s)

/-- SRL D (R512). -/
def execSrlD (s : State) : Result := .next (rotR8 .srl (.reg .d) s)

/-- SRL E (R512). -/
def execSrlE (s : State) : Result := .next (rotR8 .srl (.reg .e) s)

/-- SRL H (R512). -/
def execSrlH (s : State) : Result := .next (rotR8 .srl (.reg .h) s)

/-- SRL L (R512). -/
def execSrlL (s : State) : Result := .next (rotR8 .srl (.reg .l) s)

/-- SRL (HL) (R512). -/
def execSrlMhl (s : State) : Result := .next (rotR8 .srl .mhl s)

/-- SRL A (R512). -/
def execSrlA (s : State) : Result := .next (rotR8 .srl (.reg .a) s)

end Sys2Proof.Machine
end

