-- ==== Sys2Proof/Machine/Misc.lean ====
section
/-! DEFINITION. Control and system instructions (46_misc.md), the CB prefix as an entry of the primary table, and the
opcodes without an entry (60_exceptions.md R801). -/

namespace Sys2Proof.Machine

/-- The operand a three-bit field names (R310). -/
def r8OfField (n : Nat) : R8 :=
  match n with
  | 0 => .reg .b
  | 1 => .reg .c
  | 2 => .reg .d
  | 3 => .reg .e
  | 4 => .reg .h
  | 5 => .reg .l
  | 6 => .mhl
  | _ => .reg .a

/-- The rotate or shift a three-bit field names (R314). -/
def rotOfField (n : Nat) : RotOp :=
  match n with
  | 0 => .rlc
  | 1 => .rrc
  | 2 => .rl
  | 3 => .rr
  | 4 => .sla
  | 5 => .sra
  | 6 => .swap
  | _ => .srl

/-- The bit index a three-bit field names (R301). -/
def bitOfField (n : Nat) : BitIx :=
  match n with
  | 0 => .b0
  | 1 => .b1
  | 2 => .b2
  | 3 => .b3
  | 4 => .b4
  | 5 => .b5
  | 6 => .b6
  | _ => .b7

/-- The CB table's entry for `op2`, by its fields x, y and z (R301). -/
def cbRule (op2 : Byte) (s : State) : State :=
  let y := op2.toNat / 8 % 8
  let r := r8OfField (op2.toNat % 8)
  match op2.toNat / 64 with
  | 0 => rotR8 (rotOfField y) r s
  | 1 => bitR8 (bitOfField y) r s
  | 2 => resR8 (bitOfField y) r s
  | _ => setR8 (bitOfField y) r s

/-- The prefix 0xCB as an entry of the primary table: it has no effect of its own; the byte after it is fetched and
the CB table's entry for it is executed (R706). -/
def prefixedEntry (s : State) : State :=
  let x := fetchByte s
  cbRule x.1 x.2

/-! The meanings, one for each row. -/

/-- NOP (R700). -/
def execNop (s : State) : Result := .next s

/-- STOP (R703). -/
def execStop (_n : Byte) (s : State) : Result := .next (placeholder 0x10 2 s)

/-- HALT (R702). -/
def execHalt (s : State) : Result := .next (placeholder 0x76 1 s)

/-- PREFIX CB (R706). -/
def execCbPrefix (s : State) : Result := .next (prefixedEntry s)

/-- opcode 0xD3, no entry (R801). -/
def execNoEntryD3 (s : State) : Result := .next (raiseDecodeError 0xD3 s)

/-- opcode 0xDB, no entry (R801). -/
def execNoEntryDB (s : State) : Result := .next (raiseDecodeError 0xDB s)

/-- opcode 0xDD, no entry (R801). -/
def execNoEntryDD (s : State) : Result := .next (raiseDecodeError 0xDD s)

/-- opcode 0xE3, no entry (R801). -/
def execNoEntryE3 (s : State) : Result := .next (raiseDecodeError 0xE3 s)

/-- opcode 0xE4, no entry (R801). -/
def execNoEntryE4 (s : State) : Result := .next (raiseDecodeError 0xE4 s)

/-- opcode 0xEB, no entry (R801). -/
def execNoEntryEB (s : State) : Result := .next (raiseDecodeError 0xEB s)

/-- opcode 0xEC, no entry (R801). -/
def execNoEntryEC (s : State) : Result := .next (raiseDecodeError 0xEC s)

/-- opcode 0xED, no entry (R801). -/
def execNoEntryED (s : State) : Result := .next (raiseDecodeError 0xED s)

/-- DI (R704). -/
def execDi (s : State) : Result := .next (placeholder 0xF3 1 s)

/-- opcode 0xF4, no entry (R801). -/
def execNoEntryF4 (s : State) : Result := .next (raiseDecodeError 0xF4 s)

/-- EI (R705). -/
def execEi (s : State) : Result := .next (placeholder 0xFB 1 s)

/-- opcode 0xFC, no entry (R801). -/
def execNoEntryFC (s : State) : Result := .next (raiseDecodeError 0xFC s)

/-- opcode 0xFD, no entry (R801). -/
def execNoEntryFD (s : State) : Result := .next (raiseDecodeError 0xFD s)

end Sys2Proof.Machine
end

