-- ==== Sys2Proof/Machine/Transfer.lean ====
section
/-! DEFINITION. Loads and stores (45_load.md). -/

namespace Sys2Proof.Machine

/-- `R[r] <- MemRead(a, 1)`. -/
def loadReg (r : Reg8) (a : Word) (s : State) : State :=
  let x := memRead a s
  setReg r x.1 x.2

/-- `RR[HL] <- (RR[HL] + d) & 0xFFFF` of the post-increment and post-decrement forms (R672). -/
def stepHl (d : Word) (s : State) : State := setPair .hl (pair .hl s + d) s

/-! The meanings, one for each row. -/

/-- LD BC,d16 (R669). -/
def execLdBcD16 (nn : Word) (s : State) : Result := .next (setPair .bc nn s)

/-- LD (BC),A (R657). -/
def execLdMbcA (s : State) : Result := .next (memWrite (pair .bc s) (reg .a s) s)

/-- LD B,d8 (R653). -/
def execLdBD8 (n : Byte) (s : State) : Result := .next (setReg .b n s)

/-- LD (a16),SP (R670). -/
def execLdMa16Sp (nn : Word) (s : State) : Result := .next (write16 nn s.cpu.sp s)

/-- LD A,(BC) (R655). -/
def execLdAMbc (s : State) : Result := .next (loadReg .a (pair .bc s) s)

/-- LD C,d8 (R653). -/
def execLdCD8 (n : Byte) (s : State) : Result := .next (setReg .c n s)

/-- LD DE,d16 (R669). -/
def execLdDeD16 (nn : Word) (s : State) : Result := .next (setPair .de nn s)

/-- LD (DE),A (R658). -/
def execLdMdeA (s : State) : Result := .next (memWrite (pair .de s) (reg .a s) s)

/-- LD D,d8 (R653). -/
def execLdDD8 (n : Byte) (s : State) : Result := .next (setReg .d n s)

/-- LD A,(DE) (R656). -/
def execLdAMde (s : State) : Result := .next (loadReg .a (pair .de s) s)

/-- LD E,d8 (R653). -/
def execLdED8 (n : Byte) (s : State) : Result := .next (setReg .e n s)

/-- LD HL,d16 (R669). -/
def execLdHlD16 (nn : Word) (s : State) : Result := .next (setPair .hl nn s)

/-- LD (HL+),A (R661). -/
def execLdMhliA (s : State) : Result := .next (stepHl 1 (memWrite (pair .hl s) (reg .a s) s))

/-- LD H,d8 (R653). -/
def execLdHD8 (n : Byte) (s : State) : Result := .next (setReg .h n s)

/-- LD A,(HL+) (R659). -/
def execLdAMhli (s : State) : Result := .next (stepHl 1 (loadReg .a (pair .hl s) s))

/-- LD L,d8 (R653). -/
def execLdLD8 (n : Byte) (s : State) : Result := .next (setReg .l n s)

/-- LD SP,d16 (R669). -/
def execLdSpD16 (nn : Word) (s : State) : Result := .next (setPair .sp nn s)

/-- LD (HL-),A (R662). -/
def execLdMhldA (s : State) : Result := .next (stepHl (-1) (memWrite (pair .hl s) (reg .a s) s))

/-- LD (HL),d8 (R654). -/
def execLdMhlD8 (n : Byte) (s : State) : Result := .next (memWrite (pair .hl s) n s)

/-- LD A,(HL-) (R660). -/
def execLdAMhld (s : State) : Result := .next (stepHl (-1) (loadReg .a (pair .hl s) s))

/-- LD A,d8 (R653). -/
def execLdAD8 (n : Byte) (s : State) : Result := .next (setReg .a n s)

/-- LD B,B (R650). -/
def execLdBB (s : State) : Result := .next (setReg .b (reg .b s) s)

/-- LD B,C (R650). -/
def execLdBC (s : State) : Result := .next (setReg .b (reg .c s) s)

/-- LD B,D (R650). -/
def execLdBD (s : State) : Result := .next (setReg .b (reg .d s) s)

/-- LD B,E (R650). -/
def execLdBE (s : State) : Result := .next (setReg .b (reg .e s) s)

/-- LD B,H (R650). -/
def execLdBH (s : State) : Result := .next (setReg .b (reg .h s) s)

/-- LD B,L (R650). -/
def execLdBL (s : State) : Result := .next (setReg .b (reg .l s) s)

/-- LD B,(HL) (R651). -/
def execLdBMhl (s : State) : Result := .next (loadReg .b (pair .hl s) s)

/-- LD B,A (R650). -/
def execLdBA (s : State) : Result := .next (setReg .b (reg .a s) s)

/-- LD C,B (R650). -/
def execLdCB (s : State) : Result := .next (setReg .c (reg .b s) s)

/-- LD C,C (R650). -/
def execLdCC (s : State) : Result := .next (setReg .c (reg .c s) s)

/-- LD C,D (R650). -/
def execLdCD (s : State) : Result := .next (setReg .c (reg .d s) s)

/-- LD C,E (R650). -/
def execLdCE (s : State) : Result := .next (setReg .c (reg .e s) s)

/-- LD C,H (R650). -/
def execLdCH (s : State) : Result := .next (setReg .c (reg .h s) s)

/-- LD C,L (R650). -/
def execLdCL (s : State) : Result := .next (setReg .c (reg .l s) s)

/-- LD C,(HL) (R651). -/
def execLdCMhl (s : State) : Result := .next (loadReg .c (pair .hl s) s)

/-- LD C,A (R650). -/
def execLdCA (s : State) : Result := .next (setReg .c (reg .a s) s)

/-- LD D,B (R650). -/
def execLdDB (s : State) : Result := .next (setReg .d (reg .b s) s)

/-- LD D,C (R650). -/
def execLdDC (s : State) : Result := .next (setReg .d (reg .c s) s)

/-- LD D,D (R650). -/
def execLdDD (s : State) : Result := .next (setReg .d (reg .d s) s)

/-- LD D,E (R650). -/
def execLdDE (s : State) : Result := .next (setReg .d (reg .e s) s)

/-- LD D,H (R650). -/
def execLdDH (s : State) : Result := .next (setReg .d (reg .h s) s)

/-- LD D,L (R650). -/
def execLdDL (s : State) : Result := .next (setReg .d (reg .l s) s)

/-- LD D,(HL) (R651). -/
def execLdDMhl (s : State) : Result := .next (loadReg .d (pair .hl s) s)

/-- LD D,A (R650). -/
def execLdDA (s : State) : Result := .next (setReg .d (reg .a s) s)

/-- LD E,B (R650). -/
def execLdEB (s : State) : Result := .next (setReg .e (reg .b s) s)

/-- LD E,C (R650). -/
def execLdEC (s : State) : Result := .next (setReg .e (reg .c s) s)

/-- LD E,D (R650). -/
def execLdED (s : State) : Result := .next (setReg .e (reg .d s) s)

/-- LD E,E (R650). -/
def execLdEE (s : State) : Result := .next (setReg .e (reg .e s) s)

/-- LD E,H (R650). -/
def execLdEH (s : State) : Result := .next (setReg .e (reg .h s) s)

/-- LD E,L (R650). -/
def execLdEL (s : State) : Result := .next (setReg .e (reg .l s) s)

/-- LD E,(HL) (R651). -/
def execLdEMhl (s : State) : Result := .next (loadReg .e (pair .hl s) s)

/-- LD E,A (R650). -/
def execLdEA (s : State) : Result := .next (setReg .e (reg .a s) s)

/-- LD H,B (R650). -/
def execLdHB (s : State) : Result := .next (setReg .h (reg .b s) s)

/-- LD H,C (R650). -/
def execLdHC (s : State) : Result := .next (setReg .h (reg .c s) s)

/-- LD H,D (R650). -/
def execLdHD (s : State) : Result := .next (setReg .h (reg .d s) s)

/-- LD H,E (R650). -/
def execLdHE (s : State) : Result := .next (setReg .h (reg .e s) s)

/-- LD H,H (R650). -/
def execLdHH (s : State) : Result := .next (setReg .h (reg .h s) s)

/-- LD H,L (R650). -/
def execLdHL (s : State) : Result := .next (setReg .h (reg .l s) s)

/-- LD H,(HL) (R651). -/
def execLdHMhl (s : State) : Result := .next (loadReg .h (pair .hl s) s)

/-- LD H,A (R650). -/
def execLdHA (s : State) : Result := .next (setReg .h (reg .a s) s)

/-- LD L,B (R650). -/
def execLdLB (s : State) : Result := .next (setReg .l (reg .b s) s)

/-- LD L,C (R650). -/
def execLdLC (s : State) : Result := .next (setReg .l (reg .c s) s)

/-- LD L,D (R650). -/
def execLdLD (s : State) : Result := .next (setReg .l (reg .d s) s)

/-- LD L,E (R650). -/
def execLdLE (s : State) : Result := .next (setReg .l (reg .e s) s)

/-- LD L,H (R650). -/
def execLdLH (s : State) : Result := .next (setReg .l (reg .h s) s)

/-- LD L,L (R650). -/
def execLdLL (s : State) : Result := .next (setReg .l (reg .l s) s)

/-- LD L,(HL) (R651). -/
def execLdLMhl (s : State) : Result := .next (loadReg .l (pair .hl s) s)

/-- LD L,A (R650). -/
def execLdLA (s : State) : Result := .next (setReg .l (reg .a s) s)

/-- LD (HL),B (R652). -/
def execLdMhlB (s : State) : Result := .next (memWrite (pair .hl s) (reg .b s) s)

/-- LD (HL),C (R652). -/
def execLdMhlC (s : State) : Result := .next (memWrite (pair .hl s) (reg .c s) s)

/-- LD (HL),D (R652). -/
def execLdMhlD (s : State) : Result := .next (memWrite (pair .hl s) (reg .d s) s)

/-- LD (HL),E (R652). -/
def execLdMhlE (s : State) : Result := .next (memWrite (pair .hl s) (reg .e s) s)

/-- LD (HL),H (R652). -/
def execLdMhlH (s : State) : Result := .next (memWrite (pair .hl s) (reg .h s) s)

/-- LD (HL),L (R652). -/
def execLdMhlL (s : State) : Result := .next (memWrite (pair .hl s) (reg .l s) s)

/-- LD (HL),A (R652). -/
def execLdMhlA (s : State) : Result := .next (memWrite (pair .hl s) (reg .a s) s)

/-- LD A,B (R650). -/
def execLdAB (s : State) : Result := .next (setReg .a (reg .b s) s)

/-- LD A,C (R650). -/
def execLdAC (s : State) : Result := .next (setReg .a (reg .c s) s)

/-- LD A,D (R650). -/
def execLdAD (s : State) : Result := .next (setReg .a (reg .d s) s)

/-- LD A,E (R650). -/
def execLdAE (s : State) : Result := .next (setReg .a (reg .e s) s)

/-- LD A,H (R650). -/
def execLdAH (s : State) : Result := .next (setReg .a (reg .h s) s)

/-- LD A,L (R650). -/
def execLdAL (s : State) : Result := .next (setReg .a (reg .l s) s)

/-- LD A,(HL) (R651). -/
def execLdAMhl (s : State) : Result := .next (loadReg .a (pair .hl s) s)

/-- LD A,A (R650). -/
def execLdAA (s : State) : Result := .next (setReg .a (reg .a s) s)

/-- LDH (a8),A (R666). -/
def execLdhMa8A (n : Byte) (s : State) : Result := .next (memWrite (highPage n) (reg .a s) s)

/-- LD (C),A (R668). -/
def execLdMcA (s : State) : Result := .next (memWrite (highPage (reg .c s)) (reg .a s) s)

/-- LD (a16),A (R664). -/
def execLdMa16A (nn : Word) (s : State) : Result := .next (memWrite nn (reg .a s) s)

/-- LDH A,(a8) (R665). -/
def execLdhAMa8 (n : Byte) (s : State) : Result := .next (loadReg .a (highPage n) s)

/-- LD A,(C) (R667). -/
def execLdAMc (s : State) : Result := .next (loadReg .a (highPage (reg .c s)) s)

/-- LD SP,HL (R671). -/
def execLdSpHl (s : State) : Result := .next (setSp (pair .hl s) s)

/-- LD A,(a16) (R663). -/
def execLdAMa16 (nn : Word) (s : State) : Result := .next (loadReg .a nn s)

end Sys2Proof.Machine
end

