-- ==== Sys2Proof/Machine/Ports.lean ====
section
/-! DEFINITION. The host ports that change state between steps, and the port calls a callback may make
(20_memory.md R213, R225, R226; 60_exceptions.md R820, R825, R826, R831). -/

namespace Sys2Proof.Machine

/-- Replace the scheduler. -/
def setSched (c : Scheduler) (s : State) : State := { s with sched := c }

/-- Replace the breakpoint maps. -/
def setDbg (d : Debug) (s : State) : State := { s with dbg := d }

/-- Replace the count of callbacks run. -/
def setCallbacks (n : Nat) (s : State) : State := { s with callbacks := n }

/-- `set_bank(region, k)` (R225): an out-of-range selection is ignored (R226). -/
def setBank (region : BankRegion) (k : Nat) (s : State) : State :=
  match region with
  | .rom => if 1 ≤ k ∧ k + 1 ≤ s.mem.romBanks then setMem { s.mem with romBank := k } s else s
  | .eram => if k < s.cfg.nEram then setMem { s.mem with eramBank := k } s else s
  | .wram => if k < s.cfg.nWram then setMem { s.mem with wramBank := k } s else s

/-- Insert an address into a rising list. -/
def insertAddr (a : Nat) : List Nat → List Nat
  | [] => [a]
  | b :: bs => if a < b then a :: b :: bs else if a = b then b :: bs else b :: insertAddr a bs

/-- A breakpoint map with the bit of `a` set to `e` (R831). -/
def setBp (a : Word) (e : Bool) (bs : List Nat) : List Nat :=
  if e then insertAddr a.toNat bs else bs.filter (fun b => b != a.toNat)

/-- `set_read_bp(a, e)` (R831). -/
def setReadBp (a : Word) (e : Bool) (s : State) : State := setDbg { s.dbg with rdBp := setBp a e s.dbg.rdBp } s

/-- `set_write_bp(a, e)` (R831). -/
def setWriteBp (a : Word) (e : Bool) (s : State) : State := setDbg { s.dbg with wrBp := setBp a e s.dbg.wrBp } s

/-- `set_code_bp(a, e)` (R831). -/
def setCodeBp (a : Word) (e : Bool) (s : State) : State := setDbg { s.dbg with codeBp := setBp a e s.dbg.codeBp } s

/-- Order of the sorted queue: by trigger, then by id. -/
def eventLe (x y : SchedEvent) : Bool := decide (x.trigger < y.trigger) || (x.trigger == y.trigger && decide (x.id ≤ y.id))

/-- Insert an event into the sorted queue. -/
def insertEvent (e : SchedEvent) : List SchedEvent → List SchedEvent
  | [] => [e]
  | x :: xs => if eventLe e x then e :: x :: xs else x :: insertEvent e xs

/-- `add_event(delay, id)` (R820): it fires nothing. -/
def addEvent (delay id : Nat) (s : State) : State :=
  setSched { s.sched with queue := insertEvent ⟨s.sched.now + delay, id⟩ s.sched.queue } s

/-- `debug_read(a)`: the byte a read would return without the unbind; no event, no change of state (R213). -/
def debugRead (a : Word) (s : State) : Byte := peek a s

/-- `get_t_cycles()` (R825). -/
def getTCycles (s : State) : Nat := s.sched.now

/-- `get_m_cycles()` (R825). -/
def getMCycles (s : State) : Nat := s.sched.now / 4

/-- One port call of a callback (R826). -/
def applyCall (c : HostCall) (s : State) : State :=
  match c with
  | .addEvent delay id => addEvent delay id s
  | .setBank region k => setBank region k s
  | .setReadBp a e => setReadBp a e s
  | .setWriteBp a e => setWriteBp a e s
  | .setCodeBp a e => setCodeBp a e s

/-- The port calls of one callback, in order. -/
def applyCalls (cs : List HostCall) (s : State) : State :=
  match cs with
  | [] => s
  | c :: rest => applyCalls rest (applyCall c s)

end Sys2Proof.Machine
end

