-- ==== Sys2Proof/Machine/Sched.lean ====
section
/-! DEFINITION. The cycle scheduler (60_exceptions.md R820 to R827). -/

namespace Sys2Proof.Machine

/-- `tick_system(n)`: advances the counter, fires nothing (R821). -/
def tickSystem (n : Nat) (s : State) : State := setSched { s.sched with now := s.sched.now + n } s

/-- `is_event_pending()`: the queue is not empty and its least trigger is at most `now` (R822). The queue is sorted,
so its head has the least trigger. -/
def isEventPending (s : State) : Bool :=
  match s.sched.queue with
  | [] => false
  | e :: _ => decide (e.trigger ≤ s.sched.now)

/-- How many events at the head of the queue have the least trigger. -/
def tieCount (q : List SchedEvent) : Nat :=
  match q with
  | [] => 0
  | e :: rest => 1 + (rest.takeWhile (fun x => x.trigger == e.trigger)).length

/-- The place in the queue of the event that fires: the only one with the least trigger, or any one of several
(R823), a free value (notes/assumptions/8.md). -/
def tieIndex (ties n : Nat) : Nat := if n ≤ 1 then 0 else Config.tieChoice ties % n

/-- `on_event` (R826): the port calls the callback of an event id makes, given the machine's state when it runs. Its
reads (`debug_read`, `get_t_cycles`, `is_event_pending`) are functions of that state, and what is outside this block
enters through `State.callbacks`, which no two callbacks of a run share (notes/assumptions/7.md). -/
abbrev OnEvent := State → Nat → List HostCall

/-- Run the callback of event `id` (R826). -/
def runCallback (on : OnEvent) (id : Nat) (s : State) : State :=
  applyCalls (on s id) (setCallbacks (s.callbacks + 1) s)

/-- Remove event `e`, at place `i` of the queue, and emit `EventFired`; a tie that was decided is counted. -/
def fireEvent (e : SchedEvent) (i : Nat) (s : State) : State :=
  emit (.eventFired e.id e.trigger s.sched.now)
    { s with sched := { s.sched with queue := s.sched.queue.eraseIdx i }
             ties := if tieCount s.sched.queue ≤ 1 then s.ties else s.ties + 1 }

/-- SchedulerUnderflow (R802): the fault is recorded and its event emitted. A status other than Ok is kept for good
(R805, R112); DEDUCED (notes/assumptions/23.md): the event of R823 is emitted in such a status too. -/
def raiseUnderflow (s : State) : State :=
  match s.status with
  | .ok => raiseFault .schedulerUnderflow s
  | .faulted _ => emit (.fault .schedulerUnderflow) s
  | .refused _ => emit (.fault .schedulerUnderflow) s

/-- `process_events()`: fires exactly one event, the earliest, whether or not it is due, and runs its callback; on an
empty queue it is SchedulerUnderflow (R802, R823). -/
def processEvents (on : OnEvent) (s : State) : State :=
  match s.sched.queue with
  | [] => raiseUnderflow s
  | e :: rest =>
    let i := tieIndex s.ties (tieCount (e :: rest))
    let x := (e :: rest).getD i e
    runCallback on x.id (fireEvent x i s)

/-- `while is_event_pending(): process_events()`, at most `fuel` times. -/
def pollLoop (on : OnEvent) (fuel : Nat) (s : State) : State :=
  match fuel with
  | 0 => s
  | n + 1 => if isEventPending s then pollLoop on n (processEvents on s) else s

/-! The host of the engine -/

/-- An `on_event` under which the loop of R824 ends from every state, with a number of turns that suffices. Under any
other host a step that meets a loop without end has no next state at all (notes/assumptions/22.md). -/
structure PollingHost where
  onEvent : OnEvent
  turns : State → Nat
  ends : ∀ s, isEventPending (pollLoop onEvent (turns s) s) = false

/-- All that SchedulerUnderflow does. -/
theorem raiseUnderflow_eq (s : State) : raiseUnderflow s =
    { s with status := if s.status = .ok then .faulted .schedulerUnderflow else s.status
             out := s.out ++ [.fault .schedulerUnderflow] } := by
  obtain ⟨cpu, mem, sched, dbg, status, cfg, out, callbacks, ties⟩ := s
  cases status <;> rfl

theorem tieIndex_lt (ties n : Nat) (h : 0 < n) : tieIndex ties n < n := by
  unfold tieIndex
  split
  · omega
  · exact Nat.mod_lt _ h

theorem tieCount_le (q : List SchedEvent) : tieCount q ≤ q.length := by
  cases q with
  | nil => exact Nat.le_refl _
  | cons e rest =>
    have := (List.takeWhile_sublist (l := rest) (fun x => x.trigger == e.trigger)).length_le
    simp only [tieCount, List.length_cons]
    omega

theorem tieCount_pos (e : SchedEvent) (q : List SchedEvent) : 0 < tieCount (e :: q) := by
  simp only [tieCount]; omega

/-- The event that fires is in the queue. -/
theorem tieIndex_lt_length (ties : Nat) (e : SchedEvent) (q : List SchedEvent) :
    tieIndex ties (tieCount (e :: q)) < (e :: q).length :=
  lt_of_lt_of_le (tieIndex_lt _ _ (tieCount_pos e q)) (tieCount_le _)

/-- A host whose callbacks do nothing ends the loop in as many turns as events are queued. -/
theorem silent_ends (n : Nat) (s : State) (h : s.sched.queue.length ≤ n) :
    isEventPending (pollLoop (fun _ _ => []) n s) = false := by
  induction n generalizing s with
  | zero => simp [pollLoop, isEventPending, List.eq_nil_of_length_eq_zero (Nat.le_zero.mp h)]
  | succ n ih =>
    unfold pollLoop
    split
    · refine ih _ ?_
      unfold processEvents
      split
      · rename_i hq; simp [raiseUnderflow_eq, hq]
      · rename_i e rest hq
        have := tieIndex_lt_length s.ties e rest
        simp only [runCallback, applyCalls, setCallbacks, fireEvent, emit, hq, List.length_eraseIdx, if_pos this]
        rw [hq] at h
        omega
    · rename_i hp; simpa using hp

/-- The host that does nothing. -/
def PollingHost.silent : PollingHost where
  onEvent := fun _ _ => []
  turns := fun s => s.sched.queue.length
  ends := fun s => silent_ends _ s (Nat.le_refl _)

end Sys2Proof.Machine

namespace Sys2Proof

/-- FREE VALUE (notes/assumptions/7.md): the host, `on_event` of R826. No body: nothing can be proved of it but that
its polling loops end, so a statement about a step holds for every such host. -/
opaque Config.host [Inhabited Machine.PollingHost] : Machine.PollingHost

end Sys2Proof

namespace Sys2Proof.Machine

/-- The host of this machine. -/
def host : PollingHost := @Config.host ⟨PollingHost.silent⟩

/-- The polling of R824 under a host: `while is_event_pending(): process_events()`. -/
def pollWith (h : PollingHost) (s : State) : State :=
  if isEventPending s then pollLoop h.onEvent (h.turns s) s else s

/-- The engine's polling after a tick (R824). -/
def poll (s : State) : State := pollWith host s

end Sys2Proof.Machine
end

