-- ==== Sys2Proof/Machine/Engine.lean ====
section
/-! DEFINITION. The execution engine around `exec` (30_encoding.md R320 to R325; 70_reset_and_hazards.md R920 to R924):
fetch, costs, instrumentation hooks, tick and poll. -/

namespace Sys2Proof.Machine

/-! Costs -/

/-- Row 0x of `COST_TABLE` (R920): the cost, and the cost when taken. -/
def costRow0 : List (Nat × Nat) :=
  [(4, 4), (12, 12), (8, 8), (8, 8), (4, 4), (4, 4), (8, 8), (4, 4),
   (20, 20), (8, 8), (8, 8), (8, 8), (4, 4), (4, 4), (8, 8), (4, 4)]

/-- Row 1x of `COST_TABLE` (R920): the cost, and the cost when taken. -/
def costRow1 : List (Nat × Nat) :=
  [(4, 4), (12, 12), (8, 8), (8, 8), (4, 4), (4, 4), (8, 8), (4, 4),
   (12, 12), (8, 8), (8, 8), (8, 8), (4, 4), (4, 4), (8, 8), (4, 4)]

/-- Row 2x of `COST_TABLE` (R920): the cost, and the cost when taken. -/
def costRow2 : List (Nat × Nat) :=
  [(8, 12), (12, 12), (8, 8), (8, 8), (4, 4), (4, 4), (8, 8), (4, 4),
   (8, 12), (8, 8), (8, 8), (8, 8), (4, 4), (4, 4), (8, 8), (4, 4)]

/-- Row 3x of `COST_TABLE` (R920): the cost, and the cost when taken. -/
def costRow3 : List (Nat × Nat) :=
  [(8, 12), (12, 12), (8, 8), (8, 8), (12, 12), (12, 12), (12, 12), (4, 4),
   (8, 12), (8, 8), (8, 8), (8, 8), (4, 4), (4, 4), (8, 8), (4, 4)]

/-- Row 4x of `COST_TABLE` (R920): the cost, and the cost when taken. -/
def costRow4 : List (Nat × Nat) :=
  [(4, 4), (4, 4), (4, 4), (4, 4), (4, 4), (4, 4), (8, 8), (4, 4),
   (4, 4), (4, 4), (4, 4), (4, 4), (4, 4), (4, 4), (8, 8), (4, 4)]

/-- Row 5x of `COST_TABLE` (R920): the cost, and the cost when taken. -/
def costRow5 : List (Nat × Nat) :=
  [(4, 4), (4, 4), (4, 4), (4, 4), (4, 4), (4, 4), (8, 8), (4, 4),
   (4, 4), (4, 4), (4, 4), (4, 4), (4, 4), (4, 4), (8, 8), (4, 4)]

/-- Row 6x of `COST_TABLE` (R920): the cost, and the cost when taken. -/
def costRow6 : List (Nat × Nat) :=
  [(4, 4), (4, 4), (4, 4), (4, 4), (4, 4), (4, 4), (8, 8), (4, 4),
   (4, 4), (4, 4), (4, 4), (4, 4), (4, 4), (4, 4), (8, 8), (4, 4)]

/-- Row 7x of `COST_TABLE` (R920): the cost, and the cost when taken. -/
def costRow7 : List (Nat × Nat) :=
  [(8, 8), (8, 8), (8, 8), (8, 8), (8, 8), (8, 8), (4, 4), (8, 8),
   (4, 4), (4, 4), (4, 4), (4, 4), (4, 4), (4, 4), (8, 8), (4, 4)]

/-- Row 8x of `COST_TABLE` (R920): the cost, and the cost when taken. -/
def costRow8 : List (Nat × Nat) :=
  [(4, 4), (4, 4), (4, 4), (4, 4), (4, 4), (4, 4), (8, 8), (4, 4),
   (4, 4), (4, 4), (4, 4), (4, 4), (4, 4), (4, 4), (8, 8), (4, 4)]

/-- Row 9x of `COST_TABLE` (R920): the cost, and the cost when taken. -/
def costRow9 : List (Nat × Nat) :=
  [(4, 4), (4, 4), (4, 4), (4, 4), (4, 4), (4, 4), (8, 8), (4, 4),
   (4, 4), (4, 4), (4, 4), (4, 4), (4, 4), (4, 4), (8, 8), (4, 4)]

/-- Row Ax of `COST_TABLE` (R920): the cost, and the cost when taken. -/
def costRowA : List (Nat × Nat) :=
  [(4, 4), (4, 4), (4, 4), (4, 4), (4, 4), (4, 4), (8, 8), (4, 4),
   (4, 4), (4, 4), (4, 4), (4, 4), (4, 4), (4, 4), (8, 8), (4, 4)]

/-- Row Bx of `COST_TABLE` (R920): the cost, and the cost when taken. -/
def costRowB : List (Nat × Nat) :=
  [(4, 4), (4, 4), (4, 4), (4, 4), (4, 4), (4, 4), (8, 8), (4, 4),
   (4, 4), (4, 4), (4, 4), (4, 4), (4, 4), (4, 4), (8, 8), (4, 4)]

/-- Row Cx of `COST_TABLE` (R920): the cost, and the cost when taken. -/
def costRowC : List (Nat × Nat) :=
  [(8, 20), (12, 12), (12, 16), (16, 16), (12, 24), (16, 16), (8, 8), (16, 16),
   (8, 20), (16, 16), (12, 16), (0, 0), (12, 24), (24, 24), (8, 8), (16, 16)]

/-- Row Dx of `COST_TABLE` (R920): the cost, and the cost when taken. -/
def costRowD : List (Nat × Nat) :=
  [(8, 20), (12, 12), (12, 16), (0, 0), (12, 24), (16, 16), (8, 8), (16, 16),
   (8, 20), (16, 16), (12, 16), (0, 0), (12, 24), (0, 0), (8, 8), (16, 16)]

/-- Row Ex of `COST_TABLE` (R920): the cost, and the cost when taken. -/
def costRowE : List (Nat × Nat) :=
  [(12, 12), (12, 12), (8, 8), (0, 0), (0, 0), (16, 16), (8, 8), (16, 16),
   (16, 16), (4, 4), (16, 16), (0, 0), (0, 0), (0, 0), (8, 8), (16, 16)]

/-- Row Fx of `COST_TABLE` (R920): the cost, and the cost when taken. -/
def costRowF : List (Nat × Nat) :=
  [(12, 12), (12, 12), (8, 8), (4, 4), (0, 0), (16, 16), (8, 8), (16, 16),
   (12, 12), (8, 8), (16, 16), (4, 4), (0, 0), (0, 0), (8, 8), (16, 16)]

/-- The primary part of the default `COST_TABLE` (R920, R921); (0, 0) where no entry is charged. -/
def mainCosts : List (List (Nat × Nat)) :=
  [costRow0, costRow1, costRow2, costRow3, costRow4, costRow5, costRow6, costRow7,
   costRow8, costRow9, costRowA, costRowB, costRowC, costRowD, costRowE, costRowF]

/-- The CB part: 8 on a register; on (HL), 12 for BIT and 16 for the others, the prefix byte included (R922). -/
def cbCost (op2 : Nat) : Nat := if op2 % 8 = 6 then (if op2 / 64 = 1 then 12 else 16) else 8

/-- The default `COST_TABLE` by opcode (the byte, or `0xCB00 | op2`): the cost, and the cost when taken. -/
def defaultCost (op : Nat) : Nat × Nat :=
  if op < 0x100 then (mainCosts.getD (op / 16) []).getD (op % 16) (0, 0)
  else (cbCost (op % 0x100), cbCost (op % 0x100))

/-- `COST_TABLE` of a configuration: its own rows, else the default (R9, R325). -/
def costEntry (cfg : Config) (op : Nat) : Nat × Nat :=
  match cfg.costs.find? (fun r => r.op == op) with
  | some r => (r.cost, r.costTaken)
  | none => defaultCost op

/-- `(taken = 1) ? desc.cost_taken : desc.cost` (R320). -/
def costOf (cfg : Config) (op : Nat) (taken : Bool) : Nat :=
  if taken then (costEntry cfg op).2 else (costEntry cfg op).1

/-! Fetch -/

/-- Fetch the opcode byte and what its table entry asks for: a CB opcode, or its immediates in order (R320). -/
def fetchInstr (s : State) : Fetched :=
  let r := fetchByte s
  match mainEntry r.1 with
  | .p0 i => { instr := i, op := r.1.toNat, imms := [], state := r.2 }
  | .p1 f =>
    let x := fetchByte r.2
    { instr := f x.1, op := r.1.toNat, imms := [x.1], state := x.2 }
  | .p2 f =>
    let lo := fetchByte r.2
    let hi := fetchByte lo.2
    { instr := f (joinBytes hi.1 lo.1), op := r.1.toNat, imms := [lo.1, hi.1], state := hi.2 }
  | .cb =>
    let x := fetchByte r.2
    { instr := cbEntry x.1, op := 0xCB00 + x.1.toNat, imms := [], state := x.2 }

/-! Hooks -/

/-- Which call or return event an instruction emits (R323). -/
inductive HookKind where
  | none
  | call
  | callCond
  | ret
  | retCond
deriving DecidableEq, Repr

/-- CALL a16 and RST t; CALL cc,a16; RET and RETI; RET cc (R323). -/
def hookKind : Instr → HookKind
  | .retNz => .retCond
  | .callNzA16 _ => .callCond
  | .rst00 => .call
  | .retZ => .retCond
  | .ret => .ret
  | .callZA16 _ => .callCond
  | .callA16 _ => .call
  | .rst08 => .call
  | .retNc => .retCond
  | .callNcA16 _ => .callCond
  | .rst10 => .call
  | .retC => .retCond
  | .reti => .ret
  | .callCA16 _ => .callCond
  | .rst18 => .call
  | .rst20 => .call
  | .rst28 => .call
  | .rst30 => .call
  | .rst38 => .call
  | _ => .none

/-- Hook (1): `CallEntered(a0, RR[PC])` or `Returned(a0, RR[PC])`; the conditional forms only when taken (R323). -/
def controlHook (a0 : Word) (i : Instr) (s : State) : State :=
  match hookKind i with
  | .none => s
  | .call => emit (.callEntered a0 s.cpu.pc) s
  | .callCond => emitIf s.cpu.taken (.callEntered a0 s.cpu.pc) s
  | .ret => emit (.returned a0 s.cpu.pc) s
  | .retCond => emitIf s.cpu.taken (.returned a0 s.cpu.pc) s

/-- The hooks of a step in order: call or return, `Trace`, `CodeBreakpoint` (R323). -/
def stepHooks (a0 : Word) (f : Fetched) (s : State) : State :=
  emitIf (s.dbg.codeBp.contains a0.toNat) (.codeBreakpoint a0 f.op f.imms)
    (emit (.trace a0 f.op f.imms) (controlHook a0 f.instr s))

/-! The step -/

/-- The end of a step: hooks, tick and poll if the instruction completed; nothing after a fault or a refusal (R320,
R801, R804). -/
def complete (a0 : Word) (f : Fetched) (s : State) : State :=
  match s.status with
  | .ok => poll (tickSystem (costOf s.cfg f.op s.cpu.taken) (stepHooks a0 f s))
  | .faulted _ => s
  | .refused _ => s

/-- One step of a running engine (R320): `taken` is cleared, the instruction is fetched, executed and completed. -/
def runInstr (s : State) : Result :=
  let f := fetchInstr (setTaken false s)
  match exec f.instr f.state with
  | .next t => .next (complete s.cpu.pc f t)
  | .fault r => .fault r
  | .refused r => .refused r

/-- The fault a recorded fault is answered with (R112). -/
def faultOf (f : FaultRecord) : Fault :=
  match f with
  | .decodeError a0 op => .decodeError a0 op
  | .schedulerUnderflow => .schedulerUnderflow

/-! Placing an instruction -/

/-- Put a byte into the byte that backs an address, ROM and boot image included: a load from outside the machine. -/
def placeByte (a : Word) (v : Byte) (s : State) : State := setMem (busStore s.mem a v) s

/-- Put the bytes of a list at consecutive addresses. -/
def placeBytes : Word → List Byte → State → State
  | _, [], s => s
  | a, v :: vs, s => placeBytes (a + 1) vs (placeByte a v s)

/-- The bytes of a table word with zeros up to the longest instruction (3 bytes). -/
def paddedBytes (nbits w : Nat) : List Byte := (tableBytes nbits w ++ [0, 0, 0]).take 3

end Sys2Proof.Machine
end

