-- ==== Sys2Proof/Machine/Step.lean ====
section
/-! DEFINITION. The step (30_encoding.md R320, R324): it only calls Machine/Engine.lean. -/

namespace Sys2Proof.Machine

/-- One step. It exists only while status is Ok and the engine is Running (R324); otherwise the machine has stopped
with the recorded fault or refusal (R112, notes/assumptions/6.md), or is stuck (notes/assumptions/17.md). -/
def step (s : State) : Host.Outcome State Fault Refusal :=
  match s.status with
  | .faulted f => .fault (faultOf f)
  | .refused op => .refused (.unimplemented op)
  | .ok =>
    if s.cpu.halted then .fault .halted
    else if s.cpu.stopped then .fault .stopped
    else runInstr s

/-- `s` with the instruction of a table word in the bytes that back PC, PC + 1 and PC + 2, where `step` fetches
(notes/assumptions/3.md, 11.md). -/
def State.withFetchWord (s : State) (nbits w : Nat) : State := placeBytes s.cpu.pc (paddedBytes nbits w) s

end Sys2Proof.Machine
end

