-- ==== Sys2Proof/Machine/Load.lean ====
section
/-! DEFINITION. Construction and `load_cartridge` (70_reset_and_hazards.md R900; 20_memory.md R230, R232). -/

namespace Sys2Proof.Machine

/-- The reason of a LoadError (R803). -/
inductive LoadError where
  | tooShort
  | badRomSizeCode
  | badBootImage
deriving DecidableEq, Repr

/-- The open parameters of construction (R9): `INIT_REGS`, `RAM_INIT` (bytes by key, any other RAM byte reads as
unlisted) and `LY_INIT`. -/
structure InitParams where
  a : Byte
  f : Byte
  b : Byte
  c : Byte
  d : Byte
  e : Byte
  h : Byte
  l : Byte
  sp : Word
  ramInit : Cells
  lyInit : Byte
deriving DecidableEq, Repr

/-- The keys of the RAM regions: every region from 0x8000 up that is mapped (R201, R900). -/
def isRamKey (key : Nat) : Bool :=
  let a := key % 0x10000
  decide (0x8000 ≤ a) && !(decide (0xE000 ≤ a) && decide (a ≤ 0xFDFF)) && !(decide (0xFEA0 ≤ a) && decide (a ≤ 0xFEFF))

/-- The RAM contents of a list of (key, byte) pairs. -/
def ramCells : Cells → Cells
  | [] => []
  | (k, v) :: rest => if isRamKey k then cellsPut (ramCells rest) k v else ramCells rest

/-- `construct(BOOT_IMAGE, config)` (R900): the boot image is 256 bytes or the construction fails (R232).
DESIGN CHOICE (notes/assumptions/24.md): R900 gives `ROM_BANKS`, `rom_bank` and `boot_bound` no value before
`load_cartridge` sets them; here they are 2, 1 and 1 until then. -/
def construct (bootImage : Option (List Byte)) (p : InitParams) (cfg : Config) : Except LoadError State :=
  match bootImage with
  | none => .error .badBootImage
  | some boot =>
    if boot.length = 256 then
      .ok { cpu := { a := p.a, flags := flagsOfByte p.f, b := p.b, c := p.c, d := p.d, e := p.e, h := p.h, l := p.l,
                     sp := p.sp, pc := 0x0000, halted := false, stopped := false, taken := false }
            mem := { cells := cellsPutList (cellsPut (ramCells p.ramInit) (cellKey 0 0xFF44) p.lyInit) (cellKey 1 0x0000) boot
                     romBanks := 2, romBank := 1, eramBank := 0, wramBank := 0, bootBound := true, bankState := .none }
            sched := { now := 0, queue := [] }
            dbg := { rdBp := [], wrBp := [], codeBp := [] }
            status := .ok
            cfg := cfg
            out := []
            callbacks := 0
            ties := 0 }
    else .error .badBootImage

/-- Chunk `k` of the image: its 16 KiB, or 0xFF bytes where the image does not hold the whole chunk (R230). -/
def romChunk (img : List Byte) (k : Nat) : List Byte :=
  if 0x4000 * (k + 1) ≤ img.length then (img.drop (0x4000 * k)).take 0x4000 else List.replicate 0x4000 0xFF

/-- Load chunks `1 .. n` into `romx` (R230). -/
def loadChunks (img : List Byte) : Nat → Cells → Cells
  | 0, m => m
  | n + 1, m => cellsPutList (loadChunks img n m) (cellKey (n + 1) 0x4000) (romChunk img (n + 1))

/-- `load_cartridge(img)` (R230). -/
def loadCartridge (img : Option (List Byte)) (s : State) : Except LoadError State :=
  match img with
  | none => .error .tooShort
  | some l =>
    if l.length < 0x4000 then .error .tooShort
    else
      let code := (l.getD 0x0148 0).toNat
      if 8 < code then .error .badRomSizeCode
      else
        let banks := 2 ^ (code + 1)
        .ok (setMem { s.mem with
              cells := loadChunks l (banks - 1) (cellsPutList s.mem.cells (cellKey 0 0x0000) (l.take 0x4000))
              romBanks := banks
              romBank := 1
              bootBound := true } s)

end Sys2Proof.Machine
end

