-- ==== Sys2Proof/WellFormed.lean ====
section
/-! DEFINITION. Which terms of `Instr` are instructions. Every operand is a closed selector, a byte or a word, so no
operand can be out of range (10_state.md R105); what remains to check is that the row is an instruction at all. -/

namespace Sys2Proof

/-- The prefix marker 0xCB is no instruction by itself: it selects from the CB table (R706). -/
def Instr.isCbPrefix : Instr → Bool
  | .cbPrefix => true
  | _ => false

/-- The eleven opcodes with no table entry (R317). -/
def Instr.isNoEntry : Instr → Bool
  | .noEntryD3 => true
  | .noEntryDB => true
  | .noEntryDD => true
  | .noEntryE3 => true
  | .noEntryE4 => true
  | .noEntryEB => true
  | .noEntryEC => true
  | .noEntryED => true
  | .noEntryF4 => true
  | .noEntryFC => true
  | .noEntryFD => true
  | _ => false

/-- A complete instruction of the two tables: neither the bare prefix (R706) nor an opcode without an entry (R317). -/
def Instr.wellFormed (i : Instr) : Bool := !i.isCbPrefix && !i.isNoEntry

end Sys2Proof
end

