-- ==== Sys2Proof/Safety.lean ====
section
/-! DEFINITION. What counts as a safe run, the invariant of the machine, and the vocabulary of the frame statements:
which registers, flags and addresses each instruction may write (the operands, "flags" and pseudocode of its rule). -/

namespace Sys2Proof.Machine

/-- The engine is Running with status Ok: a step exists (R324). -/
def Running (s : State) : Prop := s.status = .ok ∧ s.cpu.halted = false ∧ s.cpu.stopped = false

/-- `step` answers a next state. -/
def Steps (s : State) : Prop := ∃ t, step s = .next t

/-- The invariant of the machine: storage is in canonical form; the bank selectors are in range (R114); the queue is
sorted by trigger (R118); the breakpoint lists rise; neither run flag is set (R110). -/
structure Inv (s : State) : Prop where
  cells : Memory.wf s.mem.cells = true
  romBanks : 2 ≤ s.mem.romBanks
  romBank : 1 ≤ s.mem.romBank ∧ s.mem.romBank + 1 ≤ s.mem.romBanks
  eramBank : s.mem.eramBank < s.cfg.nEram
  wramBank : s.mem.wramBank < s.cfg.nWram
  queue : s.sched.queue.Pairwise (fun x y => x.trigger ≤ y.trigger)
  rdBp : s.dbg.rdBp.Pairwise (· < ·)
  wrBp : s.dbg.wrBp.Pairwise (· < ·)
  codeBp : s.dbg.codeBp.Pairwise (· < ·)
  halted : s.cpu.halted = false
  stopped : s.cpu.stopped = false

/-- The keys of `rom0`, `romx` and `boot`: the bytes no write changes (R216). -/
def isRomKey (key : Nat) : Prop := key % 0x10000 ≤ 0x7FFF

/-- An address whose writes are stored: RAM, OAM, I/O, HRAM or IE (R201, R215). -/
def isStored (a : Word) : Prop :=
  0x8000 ≤ a.toNat ∧ ¬(0xE000 ≤ a.toNat ∧ a.toNat ≤ 0xFDFF) ∧ ¬(0xFEA0 ≤ a.toNat ∧ a.toNat ≤ 0xFEFF)

/-- The two unmapped ranges (R201, R202). -/
def isUnmapped (a : Word) : Prop := (0xE000 ≤ a.toNat ∧ a.toNat ≤ 0xFDFF) ∨ (0xFEA0 ≤ a.toNat ∧ a.toNat ≤ 0xFEFF)

/-- The decoder reads `i` from `bytes`, whatever follows. -/
def Decodes (bytes : List Byte) (i : Instr) : Prop := ∀ rest : List Byte, decode (bytes ++ rest) = .ok (i, rest)

/-- The opcode byte of a number below 256. -/
def opByte (n : Nat) : Byte := BitVec.ofNat 8 n

/-- The eleven opcodes with no table entry (R317). -/
def noEntryOpcodes : List (Instr × Byte) :=
  [(.noEntryD3, 0xD3), (.noEntryDB, 0xDB), (.noEntryDD, 0xDD), (.noEntryE3, 0xE3), (.noEntryE4, 0xE4),
   (.noEntryEB, 0xEB), (.noEntryEC, 0xEC), (.noEntryED, 0xED), (.noEntryF4, 0xF4), (.noEntryFC, 0xFC),
   (.noEntryFD, 0xFD)]

/-- The five placeholders with opcode and length; `n` is the byte STOP ignores (R318, R703). -/
def placeholderOpcodes (n : Byte) : List (Instr × Byte × Nat) :=
  [(.daa, 0x27, 1), (.halt, 0x76, 1), (.stop n, 0x10, 2), (.di, 0xF3, 1), (.ei, 0xFB, 1)]

/-- The three bytes at PC as the address space holds them now. -/
def codeAt (s : State) : List Byte :=
  [peek s.cpu.pc s, peek (s.cpu.pc + 1) s, peek (s.cpu.pc + 2) s]

/-- The state after fetching `n` bytes at PC. -/
def fetchedBytes : Nat → State → State
  | 0, s => s
  | n + 1, s => fetchedBytes n (fetchByte s).2

/-- What a row of the table says of one flag: unchanged, forced to 0 or 1, or computed. -/
inductive FlagRule where
  | kept
  | zero
  | one
  | computed
deriving DecidableEq, Repr

/-- A flag's new value against its rule: the new value is free only where the rule computes it. -/
def FlagRule.allows (r : FlagRule) (old new : Bool) : Prop :=
  match r with
  | .kept => new = old
  | .zero => new = false
  | .one => new = true
  | .computed => True

/-- The "flags" column of a row, in the order Z N H C. -/
structure FlagColumn where
  z : FlagRule
  n : FlagRule
  h : FlagRule
  c : FlagRule
deriving DecidableEq, Repr

/-- The "flags" column of spec/opcode_table.json (the prefix row and the rows without an entry have none: no flag is
theirs to write). -/
def flagColumn : Instr → FlagColumn
  | .incB | .incC | .incD | .incE | .incH | .incL
  | .incMhl | .incA => ⟨.computed, .zero, .computed, .kept⟩
  | .decB | .decC | .decD | .decE | .decH | .decL
  | .decMhl | .decA => ⟨.computed, .one, .computed, .kept⟩
  | .rlca | .rrca | .rla | .rra => ⟨.zero, .zero, .zero, .computed⟩
  | .addHlBc | .addHlDe | .addHlHl | .addHlSp => ⟨.kept, .zero, .computed, .computed⟩
  | .cpl => ⟨.kept, .one, .one, .kept⟩
  | .scf => ⟨.kept, .zero, .zero, .one⟩
  | .ccf => ⟨.kept, .zero, .zero, .computed⟩
  | .addAB | .addAC | .addAD | .addAE | .addAH | .addAL
  | .addAMhl | .addAA | .adcAB | .adcAC | .adcAD | .adcAE
  | .adcAH | .adcAL | .adcAMhl | .adcAA | .addAD8 _ | .adcAD8 _ => ⟨.computed, .zero, .computed, .computed⟩
  | .subB | .subC | .subD | .subE | .subH | .subL
  | .subMhl | .subA | .sbcAB | .sbcAC | .sbcAD | .sbcAE
  | .sbcAH | .sbcAL | .sbcAMhl | .sbcAA | .cpB | .cpC
  | .cpD | .cpE | .cpH | .cpL | .cpMhl | .cpA
  | .subD8 _ | .sbcAD8 _ | .cpD8 _ => ⟨.computed, .one, .computed, .computed⟩
  | .andB | .andC | .andD | .andE | .andH | .andL
  | .andMhl | .andA | .andD8 _ => ⟨.computed, .zero, .one, .zero⟩
  | .xorB | .xorC | .xorD | .xorE | .xorH | .xorL
  | .xorMhl | .xorA | .orB | .orC | .orD | .orE
  | .orH | .orL | .orMhl | .orA | .xorD8 _ | .orD8 _
  | .swapB | .swapC | .swapD | .swapE | .swapH | .swapL
  | .swapMhl | .swapA => ⟨.computed, .zero, .zero, .zero⟩
  | .addSpE8 _ | .ldHlSpE8 _ => ⟨.zero, .zero, .computed, .computed⟩
  | .popAf => ⟨.computed, .computed, .computed, .computed⟩
  | .rlcB | .rlcC | .rlcD | .rlcE | .rlcH | .rlcL
  | .rlcMhl | .rlcA | .rrcB | .rrcC | .rrcD | .rrcE
  | .rrcH | .rrcL | .rrcMhl | .rrcA | .rlB | .rlC
  | .rlD | .rlE | .rlH | .rlL | .rlMhl | .rlA
  | .rrB | .rrC | .rrD | .rrE | .rrH | .rrL
  | .rrMhl | .rrA | .slaB | .slaC | .slaD | .slaE
  | .slaH | .slaL | .slaMhl | .slaA | .sraB | .sraC
  | .sraD | .sraE | .sraH | .sraL | .sraMhl | .sraA
  | .srlB | .srlC | .srlD | .srlE | .srlH | .srlL
  | .srlMhl | .srlA => ⟨.computed, .zero, .zero, .computed⟩
  | .bit0B | .bit0C | .bit0D | .bit0E | .bit0H | .bit0L
  | .bit0Mhl | .bit0A | .bit1B | .bit1C | .bit1D | .bit1E
  | .bit1H | .bit1L | .bit1Mhl | .bit1A | .bit2B | .bit2C
  | .bit2D | .bit2E | .bit2H | .bit2L | .bit2Mhl | .bit2A
  | .bit3B | .bit3C | .bit3D | .bit3E | .bit3H | .bit3L
  | .bit3Mhl | .bit3A | .bit4B | .bit4C | .bit4D | .bit4E
  | .bit4H | .bit4L | .bit4Mhl | .bit4A | .bit5B | .bit5C
  | .bit5D | .bit5E | .bit5H | .bit5L | .bit5Mhl | .bit5A
  | .bit6B | .bit6C | .bit6D | .bit6E | .bit6H | .bit6L
  | .bit6Mhl | .bit6A | .bit7B | .bit7C | .bit7D | .bit7E
  | .bit7H | .bit7L | .bit7Mhl | .bit7A => ⟨.computed, .zero, .one, .kept⟩
  | _ => ⟨.kept, .kept, .kept, .kept⟩

/-- The 8-bit registers an instruction may write: its destination, and HL where the addressing mode steps it. -/
def destRegs : Instr → List Reg8
  | .ldBcD16 _ | .incBc | .decBc | .popBc => [.b, .c]
  | .incB | .decB | .ldBD8 _ | .ldBB | .ldBC | .ldBD
  | .ldBE | .ldBH | .ldBL | .ldBMhl | .ldBA | .rlcB
  | .rrcB | .rlB | .rrB | .slaB | .sraB | .swapB
  | .srlB | .res0B | .res1B | .res2B | .res3B | .res4B
  | .res5B | .res6B | .res7B | .set0B | .set1B | .set2B
  | .set3B | .set4B | .set5B | .set6B | .set7B => [.b]
  | .rlca | .ldAMbc | .rrca | .rla | .ldAMde | .rra
  | .cpl | .incA | .decA | .ldAD8 _ | .ldAB | .ldAC
  | .ldAD | .ldAE | .ldAH | .ldAL | .ldAMhl | .ldAA
  | .addAB | .addAC | .addAD | .addAE | .addAH | .addAL
  | .addAMhl | .addAA | .adcAB | .adcAC | .adcAD | .adcAE
  | .adcAH | .adcAL | .adcAMhl | .adcAA | .subB | .subC
  | .subD | .subE | .subH | .subL | .subMhl | .subA
  | .sbcAB | .sbcAC | .sbcAD | .sbcAE | .sbcAH | .sbcAL
  | .sbcAMhl | .sbcAA | .andB | .andC | .andD | .andE
  | .andH | .andL | .andMhl | .andA | .xorB | .xorC
  | .xorD | .xorE | .xorH | .xorL | .xorMhl | .xorA
  | .orB | .orC | .orD | .orE | .orH | .orL
  | .orMhl | .orA | .addAD8 _ | .adcAD8 _ | .subD8 _ | .sbcAD8 _
  | .andD8 _ | .xorD8 _ | .ldhAMa8 _ | .popAf | .ldAMc | .orD8 _
  | .ldAMa16 _ | .rlcA | .rrcA | .rlA | .rrA | .slaA
  | .sraA | .swapA | .srlA | .res0A | .res1A | .res2A
  | .res3A | .res4A | .res5A | .res6A | .res7A | .set0A
  | .set1A | .set2A | .set3A | .set4A | .set5A | .set6A
  | .set7A => [.a]
  | .addHlBc | .addHlDe | .ldHlD16 _ | .ldMhliA | .incHl | .addHlHl
  | .decHl | .ldMhldA | .addHlSp | .popHl | .ldHlSpE8 _ => [.h, .l]
  | .incC | .decC | .ldCD8 _ | .ldCB | .ldCC | .ldCD
  | .ldCE | .ldCH | .ldCL | .ldCMhl | .ldCA | .rlcC
  | .rrcC | .rlC | .rrC | .slaC | .sraC | .swapC
  | .srlC | .res0C | .res1C | .res2C | .res3C | .res4C
  | .res5C | .res6C | .res7C | .set0C | .set1C | .set2C
  | .set3C | .set4C | .set5C | .set6C | .set7C => [.c]
  | .ldDeD16 _ | .incDe | .decDe | .popDe => [.d, .e]
  | .incD | .decD | .ldDD8 _ | .ldDB | .ldDC | .ldDD
  | .ldDE | .ldDH | .ldDL | .ldDMhl | .ldDA | .rlcD
  | .rrcD | .rlD | .rrD | .slaD | .sraD | .swapD
  | .srlD | .res0D | .res1D | .res2D | .res3D | .res4D
  | .res5D | .res6D | .res7D | .set0D | .set1D | .set2D
  | .set3D | .set4D | .set5D | .set6D | .set7D => [.d]
  | .incE | .decE | .ldED8 _ | .ldEB | .ldEC | .ldED
  | .ldEE | .ldEH | .ldEL | .ldEMhl | .ldEA | .rlcE
  | .rrcE | .rlE | .rrE | .slaE | .sraE | .swapE
  | .srlE | .res0E | .res1E | .res2E | .res3E | .res4E
  | .res5E | .res6E | .res7E | .set0E | .set1E | .set2E
  | .set3E | .set4E | .set5E | .set6E | .set7E => [.e]
  | .incH | .decH | .ldHD8 _ | .ldHB | .ldHC | .ldHD
  | .ldHE | .ldHH | .ldHL | .ldHMhl | .ldHA | .rlcH
  | .rrcH | .rlH | .rrH | .slaH | .sraH | .swapH
  | .srlH | .res0H | .res1H | .res2H | .res3H | .res4H
  | .res5H | .res6H | .res7H | .set0H | .set1H | .set2H
  | .set3H | .set4H | .set5H | .set6H | .set7H => [.h]
  | .ldAMhli | .ldAMhld => [.a, .h, .l]
  | .incL | .decL | .ldLD8 _ | .ldLB | .ldLC | .ldLD
  | .ldLE | .ldLH | .ldLL | .ldLMhl | .ldLA | .rlcL
  | .rrcL | .rlL | .rrL | .slaL | .sraL | .swapL
  | .srlL | .res0L | .res1L | .res2L | .res3L | .res4L
  | .res5L | .res6L | .res7L | .set0L | .set1L | .set2L
  | .set3L | .set4L | .set5L | .set6L | .set7L => [.l]
  | _ => []

/-- The instructions that may move SP. -/
def movesSp : Instr → Bool
  | .ldSpD16 _ | .incSp | .decSp | .retNz | .popBc | .callNzA16 _
  | .pushBc | .rst00 | .retZ | .ret | .callZA16 _ | .callA16 _
  | .rst08 | .retNc | .popDe | .callNcA16 _ | .pushDe | .rst10
  | .retC | .reti | .callCA16 _ | .rst18 | .popHl | .pushHl
  | .rst20 | .addSpE8 _ | .rst28 | .popAf | .pushAf | .rst30
  | .ldSpHl | .rst38 => true
  | _ => false

/-- The addresses an instruction writes, each by the expression its meaning writes with (R13, R241, R600, R672). -/
def storedTo (i : Instr) (s : State) : List Word :=
  match i with
  | .ldMbcA => [pair .bc s]
  | .ldMa16Sp nn => [nn, nn + 1]
  | .ldMdeA => [pair .de s]
  | .ldMhliA | .ldMhldA | .incMhl | .decMhl | .ldMhlD8 _ | .ldMhlB
  | .ldMhlC | .ldMhlD | .ldMhlE | .ldMhlH | .ldMhlL | .ldMhlA
  | .rlcMhl | .rrcMhl | .rlMhl | .rrMhl | .slaMhl | .sraMhl
  | .swapMhl | .srlMhl | .res0Mhl | .res1Mhl | .res2Mhl | .res3Mhl
  | .res4Mhl | .res5Mhl | .res6Mhl | .res7Mhl | .set0Mhl | .set1Mhl
  | .set2Mhl | .set3Mhl | .set4Mhl | .set5Mhl | .set6Mhl | .set7Mhl => [pair .hl s]
  | .callNzA16 _ => if condHolds .nz s then [s.cpu.sp - 1, s.cpu.sp - 2] else []
  | .pushBc | .rst00 | .callA16 _ | .rst08 | .pushDe | .rst10
  | .rst18 | .pushHl | .rst20 | .rst28 | .pushAf | .rst30
  | .rst38 => [s.cpu.sp - 1, s.cpu.sp - 2]
  | .callZA16 _ => if condHolds .z s then [s.cpu.sp - 1, s.cpu.sp - 2] else []
  | .callNcA16 _ => if condHolds .nc s then [s.cpu.sp - 1, s.cpu.sp - 2] else []
  | .callCA16 _ => if condHolds .c s then [s.cpu.sp - 1, s.cpu.sp - 2] else []
  | .ldhMa8A n => [highPage n]
  | .ldMcA => [highPage (reg .c s)]
  | .ldMa16A nn => [nn]
  | _ => []

end Sys2Proof.Machine
end

