-- ==== Sys2Proof/Certificates/Slice0/Obligations.lean ====
section
/-! DEFINITION. The statements for the provers. Each docstring names the rule of spec/ it formalises. -/

open Sys2Proof Sys2Proof.Machine

/-! Construction and reset -/

/-- R120, R900, R230: every value after construction and `load_cartridge`, for all boot images, cartridges and
parameters; the images and the RAM contents byte by byte. -/
def Obligations.ConstructedMachineState : Prop :=
  ∀ (boot img : List Byte) (p : InitParams) (cfg : Config) (s0 s : State),
    construct (some boot) p cfg = .ok s0 → loadCartridge (some img) s0 = .ok s →
    let banks := 2 ^ ((img.getD 0x0148 0).toNat + 1)
    (boot.length = 256 ∧ 0x4000 ≤ img.length ∧ (img.getD 0x0148 0).toNat ≤ 8) ∧
    s.cpu = { a := p.a, flags := flagsOfByte p.f, b := p.b, c := p.c, d := p.d, e := p.e, h := p.h, l := p.l,
              sp := p.sp, pc := 0x0000, halted := false, stopped := false, taken := false } ∧
    s.status = .ok ∧ s.sched = { now := 0, queue := [] } ∧ s.dbg = { rdBp := [], wrBp := [], codeBp := [] } ∧
    s.cfg = cfg ∧
    (s.mem.romBanks = banks ∧ s.mem.romBank = 1 ∧ s.mem.eramBank = 0 ∧ s.mem.wramBank = 0 ∧
      s.mem.bootBound = true ∧ s.mem.bankState = .none) ∧
    (∀ j, j < 0x100 → cellsGet s.mem.cells (0x10000 + j) = boot.getD j 0) ∧
    (∀ j, j < 0x4000 → cellsGet s.mem.cells j = img.getD j 0) ∧
    (∀ k j, 1 ≤ k → k < banks → j < 0x4000 →
      cellsGet s.mem.cells (k * 0x10000 + 0x4000 + j) =
        if 0x4000 * (k + 1) ≤ img.length then img.getD (0x4000 * k + j) 0 else 0xFF) ∧
    cellsGet s.mem.cells 0xFF44 = p.lyInit ∧
    (∀ key, isRamKey key = true → key ≠ 0xFF44 → cellsGet s.mem.cells key = cellsGet p.ramInit key)

/-- R803: when construction and `load_cartridge` answer a LoadError, with its reason, and when they succeed. -/
def Obligations.LoadErrors : Prop :=
  (∀ p cfg, construct none p cfg = .error .badBootImage) ∧
  (∀ (boot : List Byte) p cfg, boot.length ≠ 256 → construct (some boot) p cfg = .error .badBootImage) ∧
  (∀ (boot : List Byte) p cfg, boot.length = 256 → ∃ s, construct (some boot) p cfg = .ok s) ∧
  (∀ s, loadCartridge none s = .error .tooShort) ∧
  (∀ (img : List Byte) s, img.length < 0x4000 → loadCartridge (some img) s = .error .tooShort) ∧
  (∀ (img : List Byte) s, 0x4000 ≤ img.length → 8 < (img.getD 0x0148 0).toNat →
    loadCartridge (some img) s = .error .badRomSizeCode) ∧
  (∀ (img : List Byte) s, 0x4000 ≤ img.length → (img.getD 0x0148 0).toNat ≤ 8 →
    ∃ t, loadCartridge (some img) s = .ok t)

/-- The model's choice (notes/assumptions/1.md, 2.md, 3.md, 5.md): the state after reset is the state construction
and load give with all open parameters zero, a zero boot image and a zero cartridge of 32 KiB. -/
def Obligations.ResetIsTheZeroMachine : Prop :=
  ∃ s0, construct (some (List.replicate 256 0)) ⟨0, 0, 0, 0, 0, 0, 0, 0, 0, [], 0⟩ Config.default = .ok s0 ∧
    loadCartridge (some (List.replicate 0x8000 0)) s0 = .ok State.reset

/-- The invariant holds after reset (R110, R114, R118, R120). -/
def Obligations.ResetMeetsTheInvariant : Prop := Machine.Inv State.reset

/-! Registers and flags -/

/-- R102: aliasing of the pairs and their halves is exact, and a register written then read gives the value written. -/
def Obligations.RegisterAliasing : Prop :=
  (∀ s : State,
    (pair .bc s).toNat = 256 * (reg .b s).toNat + (reg .c s).toNat ∧
    (pair .de s).toNat = 256 * (reg .d s).toNat + (reg .e s).toNat ∧
    (pair .hl s).toNat = 256 * (reg .h s).toNat + (reg .l s).toNat) ∧
  (∀ (v : Word) (s : State),
    (∃ hi lo : Byte, hi.toNat = v.toNat / 256 ∧ lo.toNat = v.toNat % 256 ∧
      setPair .bc v s = { s with cpu := { s.cpu with b := hi, c := lo } } ∧
      setPair .de v s = { s with cpu := { s.cpu with d := hi, e := lo } } ∧
      setPair .hl v s = { s with cpu := { s.cpu with h := hi, l := lo } }) ∧
    (∀ p, p ≠ .af → pair p (setPair p v s) = v)) ∧
  (∀ (r : Reg8) (v : Byte) (s : State),
    reg r (setReg r v s) = v ∧ (∀ r', r' ≠ r → reg r' (setReg r v s) = reg r' s) ∧
    (setReg r v s).cpu.flags = s.cpu.flags ∧ (setReg r v s).cpu.sp = s.cpu.sp ∧ (setReg r v s).cpu.pc = s.cpu.pc)

/-- R103, R104: the layout of F, its hard-wired low nibble, and the flag accessors. -/
def Obligations.FlagRegisterLayout : Prop :=
  (∀ s : State,
    let f := flagsToByte s.cpu.flags
    f.getLsbD 7 = getFlag .z s ∧ f.getLsbD 6 = getFlag .n s ∧ f.getLsbD 5 = getFlag .h s ∧
    f.getLsbD 4 = getFlag .c s ∧ f &&& 0x0F = 0 ∧
    (pair .af s).toNat = 256 * (reg .a s).toNat + f.toNat) ∧
  (∀ (v : Byte), flagsToByte (flagsOfByte v) = v &&& 0xF0) ∧
  (∀ (v : Word) (s : State),
    pair .af (setPair .af v s) = v &&& 0xFFF0 ∧
    ∃ f, setPair .af v s = { s with cpu := { s.cpu with a := hiByte v, flags := f } }) ∧
  (∀ (f g : Flag) (v : Bool) (s : State),
    getFlag g (setFlag f v s) = (if g = f then v else getFlag g s) ∧
    ∃ fs, setFlag f v s = { s with cpu := { s.cpu with flags := fs } })

/-! Memory -/

/-- R201: the region table, row by row. The arrays are told apart by the bank of the key
(notes/assumptions/13.md); distinct banks and addresses have distinct keys. -/
def Obligations.RegionDecode : Prop :=
  (∀ (m : Bus) (a : Word),
    (a.toNat ≤ 0x00FF → backing m a = some (cellKey (if m.bootBound then 1 else 0) a)) ∧
    (0x0100 ≤ a.toNat → a.toNat ≤ 0x3FFF → backing m a = some (cellKey 0 a)) ∧
    (0x4000 ≤ a.toNat → a.toNat ≤ 0x7FFF → backing m a = some (cellKey m.romBank a)) ∧
    (0x8000 ≤ a.toNat → a.toNat ≤ 0x9FFF → backing m a = some (cellKey 0 a)) ∧
    (0xA000 ≤ a.toNat → a.toNat ≤ 0xBFFF → backing m a = some (cellKey m.eramBank a)) ∧
    (0xC000 ≤ a.toNat → a.toNat ≤ 0xCFFF → backing m a = some (cellKey 0 a)) ∧
    (0xD000 ≤ a.toNat → a.toNat ≤ 0xDFFF → backing m a = some (cellKey m.wramBank a)) ∧
    (0xE000 ≤ a.toNat → a.toNat ≤ 0xFDFF → backing m a = none) ∧
    (0xFE00 ≤ a.toNat → a.toNat ≤ 0xFE9F → backing m a = some (cellKey 0 a)) ∧
    (0xFEA0 ≤ a.toNat → a.toNat ≤ 0xFEFF → backing m a = none) ∧
    (0xFF00 ≤ a.toNat → backing m a = some (cellKey 0 a))) ∧
  (∀ (b b' : Nat) (a a' : Word), cellKey b a = cellKey b' a' → b = b' ∧ a = a')

/-- R202, R210, R212, R213: the read port, through which every fetch goes too, the sentinel of the unmapped ranges, and
the debug read beside them. -/
def Obligations.ReadPort : Prop :=
  ∀ (a : Word) (s : State),
    let due := s.mem.bootBound = true ∧ s.cpu.pc = 0x0100
    let s1 := if due then { s with mem := { s.mem with bootBound := false }, out := s.out ++ [.bootUnbound] } else s
    let v := match backing s1.mem a with
      | some k => cellsGet s1.mem.cells k
      | none => 0xFF
    memRead a s = (v, if a.toNat ∈ s.dbg.rdBp then { s1 with out := s1.out ++ [.readBreakpoint a] } else s1) ∧
    debugRead a s = (match backing s.mem a with
      | some k => cellsGet s.mem.cells k
      | none => 0xFF) ∧
    (¬due → debugRead a s = (memRead a s).1) ∧
    (isUnmapped a → (memRead a s).1 = 0xFF) ∧ (memRead a s).2.mem.cells = s.mem.cells ∧
    fetchByte s = ((memRead s.cpu.pc s).1, setPc (s.cpu.pc + 1) (memRead s.cpu.pc s).2)

/-- R202, R215, R217, R218: the write port: storage, the diagnostic character, the write breakpoint; an unmapped address
stores nothing. -/
def Obligations.WritePort : Prop :=
  ∀ (a : Word) (v : Byte) (s : State),
    memWrite a v s = { s with
      mem := { s.mem with cells :=
        if a.toNat ≤ 0x7FFF then s.mem.cells
        else match backing s.mem a with
          | some k => cellsPut s.mem.cells k v
          | none => s.mem.cells }
      out := s.out ++ (if s.cfg.diagAddr = some a then [.diagChar v] else []) ++
        (if a.toNat ∈ s.dbg.wrBp then [.writeBreakpoint a v] else []) } ∧
    (isUnmapped a → (memWrite a v s).mem = s.mem)

/-- R246: a read returns the last byte written to the same backing byte; every other address and every other backing
byte keeps its value. -/
def Obligations.ReadAfterWrite : Prop :=
  ∀ (a : Word) (v : Byte) (s : State), Memory.wf s.mem.cells = true →
    (isStored a → peek a (memWrite a v s) = v) ∧
    (∀ b, b ≠ a → peek b (memWrite a v s) = peek b s) ∧
    (¬isStored a → peek a (memWrite a v s) = peek a s) ∧
    (∀ k, backing s.mem a ≠ some k → cellsGet (memWrite a v s).mem.cells k = cellsGet s.mem.cells k)

/-- R240, R241: a 16-bit access is two byte accesses, the low byte first; in stored memory the low byte is at the lower
address and the word reads back whole (R235). -/
def Obligations.WordAccess : Prop :=
  ∀ (a v : Word) (s : State),
    (let lo := memRead a s
     let hi := memRead (a + 1) lo.2
     (read16 a s).1.toNat = 256 * hi.1.toNat + lo.1.toNat ∧ (read16 a s).2 = hi.2) ∧
    (∃ lo hi : Byte, lo.toNat = v.toNat % 256 ∧ hi.toNat = v.toNat / 256 ∧
      write16 a v s = memWrite (a + 1) hi (memWrite a lo s)) ∧
    (Memory.wf s.mem.cells = true → isStored a → isStored (a + 1) →
      (peek a (write16 a v s)).toNat = v.toNat % 256 ∧
      (peek (a + 1) (write16 a v s)).toNat = v.toNat / 256 ∧
      (read16 a (write16 a v s)).1 = v)

/-- R225, R226: `set_bank` sets the selector in range and ignores a selection out of range. -/
def Obligations.SetBankKeepsTheRange : Prop :=
  ∀ (k : Nat) (s : State),
    setBank .rom k s = (if k < 1 ∨ s.mem.romBanks < k + 1 then s
      else { s with mem := { s.mem with romBank := k } }) ∧
    setBank .eram k s = (if s.cfg.nEram ≤ k then s else { s with mem := { s.mem with eramBank := k } }) ∧
    setBank .wram k s = (if s.cfg.nWram ≤ k then s else { s with mem := { s.mem with wramBank := k } }) ∧
    (Machine.Inv s → ∀ region, Machine.Inv (setBank region k s))

/-- R227: a byte written through one bank is in no other bank, at no address, and reads back after the bank is switched
away and back. -/
def Obligations.BankIsolation : Prop :=
  ∀ (a b : Word) (v : Byte) (k : Nat) (s : State), Machine.Inv s →
    (0xD000 ≤ a.toNat → a.toNat ≤ 0xDFFF →
      peek a (setBank .wram s.mem.wramBank (setBank .wram k (memWrite a v s))) = v ∧
      (k ≠ s.mem.wramBank → k < s.cfg.nWram →
        peek b (setBank .wram k (memWrite a v s)) = peek b (setBank .wram k s))) ∧
    (0xA000 ≤ a.toNat → a.toNat ≤ 0xBFFF →
      peek a (setBank .eram s.mem.eramBank (setBank .eram k (memWrite a v s))) = v ∧
      (k ≠ s.mem.eramBank → k < s.cfg.nEram →
        peek b (setBank .eram k (memWrite a v s)) = peek b (setBank .eram k s)))

/-! Encoding -/

/-- Decoding the bytes of any well-formed instruction gives it back, with every operand at every value and whatever
bytes follow (R300, R305, R306, R315, R316). -/
def Obligations.DecodeEncodeRoundTrip : Prop :=
  ∀ (i : Instr) (rest : List Byte), i.wellFormed = true → decode (encode i ++ rest) = .ok (i, rest)

/-- The other direction: what the decoder reads, the encoder writes back byte for byte, so no two byte strings decode
to one instruction (R315, R316). -/
def Obligations.EncodeOfDecoded : Prop :=
  ∀ (bytes rest : List Byte) (i : Instr), decode bytes = .ok (i, rest) → encode i ++ rest = bytes

/-- R322: the length of an instruction from its first byte. -/
def Obligations.InstructionLength : Prop :=
  ∀ (op b1 b2 : Byte), ∃ i, decode [op, b1, b2] = .ok (i, [op, b1, b2].drop (
    if op ∈ ([0xCB, 0x06, 0x0E, 0x10, 0x16, 0x18, 0x1E, 0x20, 0x26, 0x28, 0x2E, 0x30, 0x36, 0x38, 0x3E, 0xC6, 0xCE,
              0xD6, 0xDE, 0xE0, 0xE6, 0xE8, 0xEE, 0xF0, 0xF6, 0xF8, 0xFE] : List Byte) then 2
    else if op ∈ ([0x01, 0x08, 0x11, 0x21, 0x31, 0xC2, 0xC3, 0xC4, 0xCA, 0xCC, 0xCD, 0xD2, 0xD4, 0xDA, 0xDC, 0xEA,
                   0xFA] : List Byte) then 3
    else 1)) ∧
    (i.isNoEntry = true ↔ op ∈ ([0xD3, 0xDB, 0xDD, 0xE3, 0xE4, 0xEB, 0xEC, 0xED, 0xF4, 0xFC, 0xFD] : List Byte))

/-- One written-out word of each family (R315, R316, R321). -/
def Obligations.WordsOfTheSpecDecode : Prop :=
  decode [0x3A] = .ok (.ldAMhld, []) ∧ decode [0x31, 0xFE, 0xFF] = .ok (.ldSpD16 0xFFFE, []) ∧
  decode [0xC3, 0x50, 0x01] = .ok (.jpA16 0x0150, []) ∧ decode [0x30, 0xF0] = .ok (.jrNcE8 0xF0, []) ∧
  decode [0xEF] = .ok (.rst28, []) ∧ decode [0xF5] = .ok (.pushAf, []) ∧ decode [0x9E] = .ok (.sbcAMhl, []) ∧
  decode [0x39] = .ok (.addHlSp, []) ∧ decode [0xF8, 0x02] = .ok (.ldHlSpE8 0x02, []) ∧
  decode [0x10, 0x00] = .ok (.stop 0x00, []) ∧ decode [0x76] = .ok (.halt, []) ∧
  decode [0xCB, 0x37] = .ok (.swapA, []) ∧ decode [0xCB, 0x7E] = .ok (.bit7Mhl, []) ∧
  decode [0xCB, 0x87] = .ok (.res0A, []) ∧ decode [0xCB, 0xCB] = .ok (.set1E, [])

/-! The step -/

/-- R320, R107: a step fetches the bytes at PC and executes the instruction they decode to; if it completes, the hooks,
the tick and the polling follow, and after a fault or a refusal nothing does. The fetch advances PC by the length. That
every such step answers a next state rests on the model's choices: only hosts under which the polling loop ends are taken
(notes/assumptions/22.md), the step that meets a DecodeError or a refusal answers the state that records it
(notes/assumptions/6.md), and those two stand in `exec` (notes/assumptions/21.md). -/
def Obligations.StepRunsTheDecodedInstruction : Prop :=
  ∀ (s : State) (i : Instr) (rest : List Byte), Running s → decode (codeAt s) = .ok (i, rest) →
    let s1 := fetchedBytes (3 - rest.length) (setTaken false s)
    let f : Fetched := { instr := i, op := opcode i, imms := immBytes i, state := s1 }
    (∃ t, exec i s1 = .next t ∧
      step s = .next (if t.status = .ok
        then poll (tickSystem (costOf t.cfg (opcode i) t.cpu.taken) (stepHooks s.cpu.pc f t)) else t)) ∧
    s1.cpu = { s.cpu with pc := s.cpu.pc + BitVec.ofNat 16 (3 - rest.length), taken := false } ∧
    s1.status = .ok ∧ s1.mem.cells = s.mem.cells

/-- R324, R112: a step exists only while status is Ok and the engine is Running. The rest is the model's choice: that one
does exist in every such state, since only hosts under which the polling loop ends are taken (notes/assumptions/22.md)
and a DecodeError or a refusal is answered as a next state (notes/assumptions/6.md, 21.md); and what `step` answers where
none exists: the recorded fault or refusal (notes/assumptions/6.md), and the fault of a set run flag, `halted` before
`stopped` (notes/assumptions/17.md). -/
def Obligations.StepExistsExactlyWhileRunning : Prop :=
  ∀ s : State, (Steps s ↔ Running s) ∧
    (∀ a0 op, s.status = .faulted (.decodeError a0 op) → step s = .fault (.decodeError a0 op)) ∧
    (s.status = .faulted .schedulerUnderflow → step s = .fault .schedulerUnderflow) ∧
    (∀ op, s.status = .refused op → step s = .refused (.unimplemented op)) ∧
    (s.status = .ok → s.cpu.halted = true → step s = .fault .halted) ∧
    (s.status = .ok → s.cpu.halted = false → s.cpu.stopped = true → step s = .fault .stopped)

/-- Every step keeps the invariant: canonical storage, selectors in range (R114), sorted queue (R118), rising
breakpoint lists, run flags clear (R110). -/
def Obligations.StepKeepsTheInvariant : Prop := ∀ s t : State, Machine.Inv s → step s = .next t → Machine.Inv t

/-- R216: no `MemWrite` and no step changes a byte of `rom0`, `romx` or `boot`. -/
def Obligations.RomIsReadOnly : Prop :=
  (∀ (a : Word) (v : Byte) (s : State) (k : Nat), isRomKey k →
    cellsGet (memWrite a v s).mem.cells k = cellsGet s.mem.cells k) ∧
  (∀ s t : State, step s = .next t →
    (∀ k, isRomKey k → cellsGet t.mem.cells k = cellsGet s.mem.cells k) ∧ t.mem.romBanks = s.mem.romBanks)

/-- R211: the overlay is removed at most once, exactly one `BootUnbound` is emitted for it, and a step whose first read
is made with PC = 0x0100 removes it. -/
def Obligations.OverlayIsRemovedOnce : Prop :=
  ∀ s t : State, step s = .next t →
    t.out.count .bootUnbound + t.mem.bootBound.toNat = s.out.count .bootUnbound + s.mem.bootBound.toNat ∧
    (s.mem.bootBound = false → t.mem.bootBound = false) ∧
    (s.cpu.pc = 0x0100 → t.mem.bootBound = false)

/-- A completed step charges the cost of its opcode, the taken cost when `taken` is set; a fault or a refusal charges
nothing (R320, R801, R804, R921). -/
def Obligations.ClockChargesTheCost : Prop :=
  ∀ (s t : State) (i : Instr) (rest : List Byte), decode (codeAt s) = .ok (i, rest) → step s = .next t →
    (t.status = .ok → t.sched.now = s.sched.now + costOf s.cfg (opcode i) t.cpu.taken) ∧
    (t.status ≠ .ok → t.sched = s.sched)

/-- R824: the polling is the loop "while an event is due, fire one", it leaves no event due, and so does every completed
step. That the loop ends rests on the model's choice of hosts (notes/assumptions/7.md, 22.md): those under which it does,
among them every host whose callbacks add no event due at once. -/
def Obligations.NoEventIsDueAfterAStep : Prop :=
  (∀ (h : PollingHost) (s : State),
    pollWith h s = (if isEventPending s then pollWith h (processEvents h.onEvent s) else s) ∧
    isEventPending (pollWith h s) = false) ∧
  (∀ s : State,
    poll s = (if isEventPending s then poll (processEvents host.onEvent s) else s) ∧ isEventPending (poll s) = false) ∧
  (∀ on : OnEvent, (∀ s id d id', HostCall.addEvent d id' ∈ on s id → 0 < d) → ∃ h : PollingHost, h.onEvent = on) ∧
  (∀ s t : State, step s = .next t → t.status = .ok → isEventPending t = false)

/-- R806: a step ends Ok, with a DecodeError at its own address, or with a refusal under `Refuse`; it never raises
SchedulerUnderflow. -/
def Obligations.StatusAfterAStep : Prop :=
  ∀ s t : State, step s = .next t →
    t.status = .ok ∨
    (∃ op ∈ ([0xD3, 0xDB, 0xDD, 0xE3, 0xE4, 0xEB, 0xEC, 0xED, 0xF4, 0xFC, 0xFD] : List Byte),
      peek s.cpu.pc s = op ∧ t.status = .faulted (.decodeError s.cpu.pc op)) ∨
    (s.cfg.placeholderMode = .refuse ∧ ∃ op ∈ ([0x27, 0x76, 0x10, 0xF3, 0xFB] : List Byte),
      peek s.cpu.pc s = op ∧ t.status = .refused op)

/-- R801, R804, R805: a DecodeError or a refusal leaves the fetch effects only, records the address and the opcode,
emits its event and charges nothing; a status that is not Ok is kept for good, by every host port too. That the step
answers this state as a next state and the one after answers the fault or the refusal is the model's choice
(notes/assumptions/6.md): the rules say that no step exists afterwards. -/
def Obligations.AbnormalStepsAreFinal : Prop :=
  (∀ (s : State) (i : Instr) (op : Byte) (rest : List Byte), Running s → decode (codeAt s) = .ok (i, rest) →
    (i, op) ∈ noEntryOpcodes →
    let f := fetchedBytes 1 (setTaken false s)
    let t := { f with status := .faulted (.decodeError s.cpu.pc op), out := f.out ++ [.fault (.decodeError s.cpu.pc op)] }
    step s = .next t ∧ step t = .fault (.decodeError s.cpu.pc op)) ∧
  (∀ (s : State) (i : Instr) (op n : Byte) (len : Nat) (rest : List Byte), Running s →
    decode (codeAt s) = .ok (i, rest) → (i, op, len) ∈ placeholderOpcodes n → s.cfg.placeholderMode = .refuse →
    let f := fetchedBytes len (setTaken false s)
    let t := { f with status := .refused op, out := f.out ++ [.refusal s.cpu.pc op] }
    step s = .next t ∧ step t = .refused (.unimplemented op)) ∧
  (∀ s : State, s.status ≠ .ok →
    (∀ t, step s ≠ .next t) ∧ (∀ on, (processEvents on s).status = s.status) ∧
    (∀ c, (applyCall c s).status = s.status) ∧ (∀ n, (tickSystem n s).status = s.status) ∧
    (∀ img t, loadCartridge img s = .ok t → t.status = s.status))

/-- R920, R921, R922, R923: the cost of every instruction with an entry, the table as the default of the parameter, which
cost is charged, and that a refusal and a DecodeError charge nothing. -/
def Obligations.CostTable : Prop :=
  let costs (i : Instr) (c : Nat) : Prop := defaultCost (opcode i) = (c, c)
  (∀ (cc : Cond) (n : Byte) (nn : Word),
    defaultCost (opcode (.ofJr cc n)) = (8, 12) ∧ defaultCost (opcode (.ofJp cc nn)) = (12, 16) ∧
    defaultCost (opcode (.ofCall cc nn)) = (12, 24) ∧ defaultCost (opcode (.ofRet cc)) = (8, 20)) ∧
  (∀ i : Instr, (defaultCost (opcode i)).1 ≠ (defaultCost (opcode i)).2 →
    ∃ (cc : Cond) (n : Byte) (nn : Word), i = .ofJr cc n ∨ i = .ofJp cc nn ∨ i = .ofCall cc nn ∨ i = .ofRet cc) ∧
  (∀ (o : AluOp) (r : R8) (n : Byte),
    costs (.ofAlu o r) (if r = .mhl then 8 else 4) ∧ costs (.ofAluImm o n) 8 ∧
    costs (.ofInc r) (if r = .mhl then 12 else 4) ∧ costs (.ofDec r) (if r = .mhl then 12 else 4)) ∧
  (∀ (r r' : Reg8) (n : Byte),
    costs (.ofLd r r') 4 ∧ costs (.ofLdFromHl r) 8 ∧ costs (.ofLdToHl r) 8 ∧ costs (.ofLdImm r n) 8 ∧
    costs (.ldMhlD8 n) 12) ∧
  (∀ i ∈ [Instr.ldAMbc, .ldAMde, .ldMbcA, .ldMdeA, .ldAMhli, .ldAMhld, .ldMhliA, .ldMhldA, .ldAMc, .ldMcA, .ldSpHl],
    costs i 8) ∧
  (∀ i ∈ [Instr.nop, .rlca, .rrca, .rla, .rra, .cpl, .scf, .ccf, .jpHl], costs i 4) ∧
  (∀ (n : Byte) (nn : Word),
    costs (.ldhAMa8 n) 12 ∧ costs (.ldhMa8A n) 12 ∧ costs (.ldAMa16 nn) 16 ∧ costs (.ldMa16A nn) 16 ∧
    costs (.ldMa16Sp nn) 20 ∧ costs (.addSpE8 n) 16 ∧ costs (.ldHlSpE8 n) 12 ∧ costs (.jrE8 n) 12 ∧
    costs (.jpA16 nn) 16 ∧ costs (.callA16 nn) 24) ∧
  (∀ (p : RR) (q : QQ) (t : Rst) (nn : Word),
    costs (.ofLdRR p nn) 12 ∧ costs (.ofIncRR p) 8 ∧ costs (.ofDecRR p) 8 ∧ costs (.ofAddHl p) 8 ∧
    costs (.ofPush q) 16 ∧ costs (.ofPop q) 12 ∧ costs (.ofRst t) 16 ∧ costs .ret 16 ∧ costs .reti 16) ∧
  (∀ (o : RotOp) (b : BitIx) (r : R8),
    let c := if r = .mhl then 16 else 8
    costs (.ofRot o r) c ∧ costs (.ofRes b r) c ∧ costs (.ofSet b r) c ∧
    costs (.ofBit b r) (if r = .mhl then 12 else 8)) ∧
  (∀ (n : Byte) (x : Instr × Byte × Nat), x ∈ placeholderOpcodes n → costs x.1 4) ∧
  (∀ (cfg : Config) (op : Nat), (∀ r ∈ cfg.costs, r.op ≠ op) →
    costOf cfg op false = (defaultCost op).1 ∧ costOf cfg op true = (defaultCost op).2) ∧
  (∀ (s t : State) (i : Instr) (rest : List Byte), decode (codeAt s) = .ok (i, rest) → step s = .next t →
    (t.status = .ok → t.sched.now = s.sched.now + costOf s.cfg (opcode i) t.cpu.taken) ∧
    (t.status ≠ .ok → t.sched = s.sched))

/-- R323: the hooks of a step, in order, after the instruction and before the tick, with the opcode and the immediate
bytes of what was fetched. -/
def Obligations.HooksInOrder : Prop :=
  (∀ s : State, (fetchInstr s).op = opcode (fetchInstr s).instr ∧ (fetchInstr s).imms = immBytes (fetchInstr s).instr) ∧
  (∀ (a0 : Word) (f : Fetched) (s : State), s.status = .ok →
    complete a0 f s = poll (tickSystem (costOf s.cfg f.op s.cpu.taken) (stepHooks a0 f s))) ∧
  ∀ (a0 : Word) (f : Fetched) (s : State), ∃ calls : List OutEvent,
    stepHooks a0 f s = { s with out := s.out ++ calls ++ [.trace a0 f.op f.imms] ++
      (if a0.toNat ∈ s.dbg.codeBp then [.codeBreakpoint a0 f.op f.imms] else []) } ∧
    (∀ nn, f.instr = .callA16 nn → calls = [.callEntered a0 s.cpu.pc]) ∧
    (∀ t, f.instr = .ofRst t → calls = [.callEntered a0 s.cpu.pc]) ∧
    (∀ cc nn, f.instr = .ofCall cc nn → calls = if s.cpu.taken then [.callEntered a0 s.cpu.pc] else []) ∧
    (f.instr = .ret ∨ f.instr = .reti → calls = [.returned a0 s.cpu.pc]) ∧
    (∀ cc, f.instr = .ofRet cc → calls = if s.cpu.taken then [.returned a0 s.cpu.pc] else []) ∧
    ((∀ nn, f.instr ≠ .callA16 nn) → (∀ t, f.instr ≠ .ofRst t) → (∀ cc nn, f.instr ≠ .ofCall cc nn) →
      f.instr ≠ .ret → f.instr ≠ .reti → (∀ cc, f.instr ≠ .ofRet cc) → calls = [])

/-! The scheduler and the host ports -/

/-- R820, R821, R822, R825: adding an event, ticking, asking whether an event is due, and the elapsed time. The
breakpoint ports (R831) set exactly the bit of their address, and nothing else. -/
def Obligations.HostPorts : Prop :=
  (∀ (delay id : Nat) (s : State), ∃ q,
    addEvent delay id s = { s with sched := { s.sched with queue := q } } ∧
    q.Perm (⟨s.sched.now + delay, id⟩ :: s.sched.queue) ∧ (Machine.Inv s → Machine.Inv (addEvent delay id s))) ∧
  (∀ (n : Nat) (s : State), tickSystem n s = { s with sched := { s.sched with now := s.sched.now + n } }) ∧
  (∀ s : State, s.sched.queue.Pairwise (fun x y => x.trigger ≤ y.trigger) →
    (isEventPending s = true ↔ ∃ e ∈ s.sched.queue, e.trigger ≤ s.sched.now)) ∧
  (∀ s : State, getTCycles s = s.sched.now ∧ getMCycles s * 4 ≤ s.sched.now ∧ s.sched.now < (getMCycles s + 1) * 4) ∧
  (∀ (a : Word) (e : Bool) (s : State),
    (∃ m, setReadBp a e s = { s with dbg := { s.dbg with rdBp := m } } ∧
      ∀ x, x ∈ m ↔ if x = a.toNat then e = true else x ∈ s.dbg.rdBp) ∧
    (∃ m, setWriteBp a e s = { s with dbg := { s.dbg with wrBp := m } } ∧
      ∀ x, x ∈ m ↔ if x = a.toNat then e = true else x ∈ s.dbg.wrBp) ∧
    (∃ m, setCodeBp a e s = { s with dbg := { s.dbg with codeBp := m } } ∧
      ∀ x, x ∈ m ↔ if x = a.toNat then e = true else x ∈ s.dbg.codeBp))

/-- R802, R823: `process_events` fires exactly one event, one with the least trigger (any one of several), whether or not
it is due, and runs the callback of its id; on an empty queue it is SchedulerUnderflow. R805: an earlier fault or refusal
stays recorded; that the event is emitted then too is the model's choice (notes/assumptions/23.md). R827: the source's example, for any event, any state at cycle 0 with an
empty queue and any host; the queue is empty when the one callback runs, and after it where that adds nothing. -/
def Obligations.ProcessEventsFiresOne : Prop :=
  (∀ (on : OnEvent) (s : State), s.sched.queue = [] → processEvents on s =
    { s with
      status := if s.status = .ok then .faulted .schedulerUnderflow else s.status
      out := s.out ++ [.fault .schedulerUnderflow] }) ∧
  (∀ (on : OnEvent) (s : State), s.sched.queue ≠ [] →
    s.sched.queue.Pairwise (fun x y => x.trigger ≤ y.trigger) →
    ∃ e q ties, (e :: q).Perm s.sched.queue ∧ (∀ x ∈ s.sched.queue, e.trigger ≤ x.trigger) ∧
      processEvents on s = runCallback on e.id { s with
        sched := { s.sched with queue := q }
        out := s.out ++ [.eventFired e.id e.trigger s.sched.now]
        ties := ties }) ∧
  (∀ (on : OnEvent) (id : Nat) (s : State), s.sched = { now := 0, queue := [] } →
    let s2 := tickSystem 5 (addEvent 10 id s)
    let s3 := tickSystem 5 s2
    let s4 := processEvents on s3
    let fired : State := { s with sched := { now := 10, queue := [] }, out := s.out ++ [.eventFired id 10 10] }
    isEventPending s2 = false ∧ isEventPending s3 = true ∧ s4 = runCallback on id fired ∧ s4.out = fired.out ∧
    (on fired id = [] → s4.sched.queue = [] ∧ isEventPending s4 = false))

/-- R826: what a callback of an event id does is the host's `on_event(id)`, a list of port calls made in order; so it
leaves the cpu, every byte, the status, the configuration, the clock and the overlay alone, and emits nothing. The form of
`on_event` and the count of callbacks are the model's (notes/assumptions/7.md). -/
def Obligations.CallbacksUseHostPortsOnly : Prop :=
  ∀ (on : OnEvent) (id : Nat) (s : State),
    let t := runCallback on id s
    t = (on s id).foldl (fun u c => match c with
        | .addEvent delay id' => addEvent delay id' u
        | .setBank region k => setBank region k u
        | .setReadBp a e => setReadBp a e u
        | .setWriteBp a e => setWriteBp a e u
        | .setCodeBp a e => setCodeBp a e u) { s with callbacks := s.callbacks + 1 } ∧
    t.cpu = s.cpu ∧ t.status = s.status ∧ t.cfg = s.cfg ∧ t.sched.now = s.sched.now ∧ t.mem.cells = s.mem.cells ∧
    t.mem.bootBound = s.mem.bootBound ∧ t.mem.romBanks = s.mem.romBanks ∧ t.out = s.out ∧
    t.callbacks = s.callbacks + 1 ∧ (Machine.Inv s → Machine.Inv t) ∧
    (∀ e ∈ s.sched.queue, e ∈ t.sched.queue)

/-! 8-bit arithmetic and logic -/

/-- R401, R402: ADD A,s and ADC A,s, on every operand. -/
def Obligations.AddAndAdc : Prop :=
  let outcome (a b c : Nat) (t : State) : State := { t with cpu := { t.cpu with
    a := BitVec.ofNat 8 ((a + b + c) % 256)
    flags := { z := decide ((a + b + c) % 256 = 0), n := false, h := decide (a % 16 + b % 16 + c > 0xF),
               c := decide (a + b + c > 0xFF) } } }
  (∀ (r : R8) (s : State),
    let x := readR8 r s
    Decodes [opByte (0x80 + r8Code r)] (.ofAlu .add r) ∧
    exec (.ofAlu .add r) s = .next (outcome (reg .a s).toNat x.1.toNat 0 x.2) ∧
    Decodes [opByte (0x88 + r8Code r)] (.ofAlu .adc r) ∧
    exec (.ofAlu .adc r) s = .next (outcome (reg .a s).toNat x.1.toNat (getFlag .c s).toNat x.2)) ∧
  (∀ (n : Byte) (s : State),
    Decodes [0xC6, n] (.addAD8 n) ∧ exec (.addAD8 n) s = .next (outcome (reg .a s).toNat n.toNat 0 s) ∧
    Decodes [0xCE, n] (.adcAD8 n) ∧
    exec (.adcAD8 n) s = .next (outcome (reg .a s).toNat n.toNat (getFlag .c s).toNat s))

/-- R403, R404, R408: SUB s, SBC A,s and CP s, on every operand; CP does not write A. -/
def Obligations.SubSbcAndCp : Prop :=
  let flags (a b c : Int) : Flags :=
    { z := decide ((a - b - c) % 256 = 0), n := true, h := decide (a % 16 - b % 16 - c < 0), c := decide (a - b - c < 0) }
  let outcome (a b c : Int) (t : State) : State := { t with cpu := { t.cpu with
    a := BitVec.ofNat 8 ((a - b - c) % 256).toNat
    flags := flags a b c } }
  (∀ (r : R8) (s : State),
    let x := readR8 r s
    Decodes [opByte (0x90 + r8Code r)] (.ofAlu .sub r) ∧
    exec (.ofAlu .sub r) s = .next (outcome (reg .a s).toNat x.1.toNat 0 x.2) ∧
    Decodes [opByte (0x98 + r8Code r)] (.ofAlu .sbc r) ∧
    exec (.ofAlu .sbc r) s = .next (outcome (reg .a s).toNat x.1.toNat (getFlag .c s).toNat x.2) ∧
    Decodes [opByte (0xB8 + r8Code r)] (.ofAlu .cp r) ∧
    exec (.ofAlu .cp r) s = .next { x.2 with cpu := { x.2.cpu with flags := flags (reg .a s).toNat x.1.toNat 0 } }) ∧
  (∀ (n : Byte) (s : State),
    Decodes [0xD6, n] (.subD8 n) ∧ exec (.subD8 n) s = .next (outcome (reg .a s).toNat n.toNat 0 s) ∧
    Decodes [0xDE, n] (.sbcAD8 n) ∧
    exec (.sbcAD8 n) s = .next (outcome (reg .a s).toNat n.toNat (getFlag .c s).toNat s) ∧
    Decodes [0xFE, n] (.cpD8 n) ∧
    exec (.cpD8 n) s = .next { s with cpu := { s.cpu with flags := flags (reg .a s).toNat n.toNat 0 } })

/-- R405, R406, R407: AND s, XOR s and OR s, on every operand. -/
def Obligations.AndXorAndOr : Prop :=
  let outcome (v : Byte) (h : Bool) (t : State) : State := { t with cpu := { t.cpu with
    a := v
    flags := { z := decide (v = 0), n := false, h := h, c := false } } }
  (∀ (r : R8) (s : State),
    let x := readR8 r s
    Decodes [opByte (0xA0 + r8Code r)] (.ofAlu .and r) ∧
    exec (.ofAlu .and r) s = .next (outcome (reg .a s &&& x.1) true x.2) ∧
    Decodes [opByte (0xA8 + r8Code r)] (.ofAlu .xor r) ∧
    exec (.ofAlu .xor r) s = .next (outcome (reg .a s ^^^ x.1) false x.2) ∧
    Decodes [opByte (0xB0 + r8Code r)] (.ofAlu .or r) ∧
    exec (.ofAlu .or r) s = .next (outcome (reg .a s ||| x.1) false x.2)) ∧
  (∀ (n : Byte) (s : State),
    Decodes [0xE6, n] (.andD8 n) ∧ exec (.andD8 n) s = .next (outcome (reg .a s &&& n) true s) ∧
    Decodes [0xEE, n] (.xorD8 n) ∧ exec (.xorD8 n) s = .next (outcome (reg .a s ^^^ n) false s) ∧
    Decodes [0xF6, n] (.orD8 n) ∧ exec (.orD8 n) s = .next (outcome (reg .a s ||| n) false s))

/-- R410, R411: INC r and DEC r on every operand: one read, one write, C unchanged. -/
def Obligations.IncAndDec8 : Prop :=
  ∀ (r : R8) (s : State),
    let x := readR8 r s
    let v := x.1.toNat
    Decodes [opByte (0x04 + 8 * r8Code r)] (.ofInc r) ∧
    exec (.ofInc r) s = .next (setFlags
      { z := decide ((v + 1) % 256 = 0), n := false, h := decide (v % 16 = 15), c := getFlag .c s }
      (writeR8 r (BitVec.ofNat 8 ((v + 1) % 256)) x.2)) ∧
    Decodes [opByte (0x05 + 8 * r8Code r)] (.ofDec r) ∧
    exec (.ofDec r) s = .next (setFlags
      { z := decide ((v + 255) % 256 = 0), n := true, h := decide (v % 16 = 0), c := getFlag .c s }
      (writeR8 r (BitVec.ofNat 8 ((v + 255) % 256)) x.2))

/-- R415, R416, R417: CPL, SCF and CCF. -/
def Obligations.CplScfAndCcf : Prop :=
  Decodes [0x2F] .cpl ∧ Decodes [0x37] .scf ∧ Decodes [0x3F] .ccf ∧
  ∀ s : State,
    exec .cpl s = .next { s with cpu := { s.cpu with
      a := BitVec.ofNat 8 (255 - (reg .a s).toNat)
      flags := { z := getFlag .z s, n := true, h := true, c := getFlag .c s } } } ∧
    exec .scf s = .next { s with cpu := { s.cpu with flags := { z := getFlag .z s, n := false, h := false, c := true } } } ∧
    exec .ccf s = .next { s with cpu := { s.cpu with
      flags := { z := getFlag .z s, n := false, h := false, c := decide ((getFlag .c s).toNat = 0) } } }

/-- R701, R421, R702, R703, R704, R705: under `SourceNop` a placeholder has no effect beyond the fetch, under `Refuse`
it sets the status and emits the refusal, and nothing else. That the refusal stands in `exec` and that its address there
is PC minus the length are the model's choice (notes/assumptions/14.md, 21.md). -/
def Obligations.Placeholders : Prop :=
  (Decodes [0x27] .daa ∧ Decodes [0x76] .halt ∧ (∀ n, Decodes [0x10, n] (.stop n)) ∧ Decodes [0xF3] .di ∧
    Decodes [0xFB] .ei) ∧
  ∀ (n : Byte) (s : State) (i : Instr) (op : Byte) (len : Nat), (i, op, len) ∈ placeholderOpcodes n →
    (s.cfg.placeholderMode = .sourceNop → exec i s = .next s) ∧
    (s.cfg.placeholderMode = .refuse → exec i s = .next { s with
      status := .refused op
      out := s.out ++ [.refusal (s.cpu.pc - BitVec.ofNat 16 len) op] })

/-! 16-bit arithmetic -/

/-- R450: ADD HL,rr. The flags as the byte-wise propagation of the pseudocode, which is the carries out of bit 11 and
bit 15. -/
def Obligations.AddHl : Prop :=
  ∀ (p : RR) (s : State),
    let a := (pair .hl s).toNat
    let b := (pair (rrPair p) s).toNat
    let cl := if a % 256 + b % 256 > 0xFF then 1 else 0
    let h := decide (a / 256 % 16 + b / 256 % 16 + cl > 0xF)
    let c := decide (a / 256 + b / 256 + cl > 0xFF)
    Decodes [opByte (0x09 + 16 * rrCode p)] (.ofAddHl p) ∧
    exec (.ofAddHl p) s = .next (setFlags { z := getFlag .z s, n := false, h := h, c := c }
      (setPair .hl (BitVec.ofNat 16 ((a + b) % 65536)) s)) ∧
    h = decide (a % 4096 + b % 4096 > 0x0FFF) ∧ c = decide (a + b > 0xFFFF)

/-- R451, R452: INC rr and DEC rr write no flag. -/
def Obligations.IncAndDec16 : Prop :=
  ∀ (p : RR) (s : State),
    let v := (pair (rrPair p) s).toNat
    Decodes [opByte (0x03 + 16 * rrCode p)] (.ofIncRR p) ∧
    exec (.ofIncRR p) s = .next (setPair (rrPair p) (BitVec.ofNat 16 ((v + 1) % 65536)) s) ∧
    Decodes [opByte (0x0B + 16 * rrCode p)] (.ofDecRR p) ∧
    exec (.ofDecRR p) s = .next (setPair (rrPair p) (BitVec.ofNat 16 ((v + 65535) % 65536)) s)

/-- R453, R454: ADD SP,e8 and LD HL,SP+e8: a signed displacement, and the carries of the unsigned low-byte addition. -/
def Obligations.SpOffset : Prop :=
  ∀ (u : Byte) (s : State),
    let r := BitVec.ofInt 16 ((s.cpu.sp.toNat : Int) + u.toInt)
    let flags : Flags := { z := false, n := false, h := decide (s.cpu.sp.toNat % 16 + u.toNat % 16 > 0xF),
                           c := decide (s.cpu.sp.toNat % 256 + u.toNat > 0xFF) }
    Decodes [0xE8, u] (.addSpE8 u) ∧
    exec (.addSpE8 u) s = .next { s with cpu := { s.cpu with sp := r, flags := flags } } ∧
    Decodes [0xF8, u] (.ldHlSpE8 u) ∧
    exec (.ldHlSpE8 u) s = .next { s with cpu := { s.cpu with h := hiByte r, l := loByte r, flags := flags } }

/-! Rotates, shifts and bits -/

/-- R500, R501, R502, R503: the accumulator rotates always clear Z. -/
def Obligations.AccumulatorRotates : Prop :=
  Decodes [0x07] .rlca ∧ Decodes [0x0F] .rrca ∧ Decodes [0x17] .rla ∧ Decodes [0x1F] .rra ∧
  ∀ s : State,
    let v := (reg .a s).toNat
    let c := (getFlag .c s).toNat
    let outcome (res : Nat) (out : Bool) : State := { s with cpu := { s.cpu with
      a := BitVec.ofNat 8 res
      flags := { z := false, n := false, h := false, c := out } } }
    exec .rlca s = .next (outcome ((2 * v + v / 128) % 256) (decide (v / 128 = 1))) ∧
    exec .rrca s = .next (outcome (v / 2 + 128 * (v % 2)) (decide (v % 2 = 1))) ∧
    exec .rla s = .next (outcome ((2 * v + c) % 256) (decide (v / 128 = 1))) ∧
    exec .rra s = .next (outcome (v / 2 + 128 * c) (decide (v % 2 = 1)))

/-- R505 to R512: the CB rotates and shifts on every operand: one read, one write, Z from the result. -/
def Obligations.CbRotatesAndShifts : Prop :=
  ∀ (r : R8) (s : State),
    let x := readR8 r s
    let v := x.1.toNat
    let c := (getFlag .c s).toNat
    let outcome (res : Nat) (out : Bool) : State :=
      setFlags { z := decide (res = 0), n := false, h := false, c := out } (writeR8 r (BitVec.ofNat 8 res) x.2)
    (∀ o, Decodes [0xCB, opByte (8 * rotCode o + r8Code r)] (.ofRot o r)) ∧
    exec (.ofRot .rlc r) s = .next (outcome ((2 * v + v / 128) % 256) (decide (v / 128 = 1))) ∧
    exec (.ofRot .rrc r) s = .next (outcome (v / 2 + 128 * (v % 2)) (decide (v % 2 = 1))) ∧
    exec (.ofRot .rl r) s = .next (outcome ((2 * v + c) % 256) (decide (v / 128 = 1))) ∧
    exec (.ofRot .rr r) s = .next (outcome (v / 2 + 128 * c) (decide (v % 2 = 1))) ∧
    exec (.ofRot .sla r) s = .next (outcome (2 * v % 256) (decide (v / 128 = 1))) ∧
    exec (.ofRot .sra r) s = .next (outcome (v / 2 + 128 * (v / 128)) (decide (v % 2 = 1))) ∧
    exec (.ofRot .swap r) s = .next (outcome (16 * (v % 16) + v / 16) false) ∧
    exec (.ofRot .srl r) s = .next (outcome (v / 2) (decide (v % 2 = 1)))

/-- R550: BIT b,r reads the operand once and writes only Z, N and H. -/
def Obligations.BitTest : Prop :=
  ∀ (b : BitIx) (r : R8) (s : State),
    let x := readR8 r s
    Decodes [0xCB, opByte (0x40 + 8 * bitCode b + r8Code r)] (.ofBit b r) ∧
    exec (.ofBit b r) s = .next (setFlags
      { z := decide (x.1.toNat / 2 ^ bitCode b % 2 = 0), n := false, h := true, c := getFlag .c s } x.2)

/-- R551, R552: RES b,r and SET b,r change the one bit and no flag; they write even where the bit stands already. -/
def Obligations.ResAndSet : Prop :=
  ∀ (b : BitIx) (r : R8) (s : State),
    let x := readR8 r s
    let bit := x.1.toNat / 2 ^ bitCode b % 2
    Decodes [0xCB, opByte (0x80 + 8 * bitCode b + r8Code r)] (.ofRes b r) ∧
    exec (.ofRes b r) s = .next (writeR8 r (BitVec.ofNat 8 (x.1.toNat - bit * 2 ^ bitCode b)) x.2) ∧
    Decodes [0xCB, opByte (0xC0 + 8 * bitCode b + r8Code r)] (.ofSet b r) ∧
    exec (.ofSet b r) s = .next (writeR8 r (BitVec.ofNat 8 (x.1.toNat + (1 - bit) * 2 ^ bitCode b)) x.2)

/-! Control transfer and stack -/

/-- R313, R605 to R609: the jumps; a conditional form does the jump and sets `taken` exactly when its condition holds. -/
def Obligations.Jumps : Prop :=
  (∀ s : State, (condHolds .nz s = true ↔ getFlag .z s = false) ∧ (condHolds .z s = true ↔ getFlag .z s = true) ∧
    (condHolds .nc s = true ↔ getFlag .c s = false) ∧ (condHolds .c s = true ↔ getFlag .c s = true)) ∧
  (∀ (nn : Word) (n : Byte) (s : State),
    let rel := BitVec.ofInt 16 ((s.cpu.pc.toNat : Int) + n.toInt)
    Decodes [0xC3, loByte nn, hiByte nn] (.jpA16 nn) ∧
    exec (.jpA16 nn) s = .next { s with cpu := { s.cpu with pc := nn } } ∧
    Decodes [0xE9] .jpHl ∧
    exec .jpHl s = .next { s with cpu := { s.cpu with pc := pair .hl s } } ∧
    Decodes [0x18, n] (.jrE8 n) ∧
    exec (.jrE8 n) s = .next { s with cpu := { s.cpu with pc := rel } } ∧
    (∀ cc, Decodes [opByte (0xC2 + 8 * condCode cc), loByte nn, hiByte nn] (.ofJp cc nn) ∧
      exec (.ofJp cc nn) s = .next (if condHolds cc s then { s with cpu := { s.cpu with pc := nn, taken := true } } else s)) ∧
    (∀ cc, Decodes [opByte (0x20 + 8 * condCode cc), n] (.ofJr cc n) ∧
      exec (.ofJr cc n) s = .next (if condHolds cc s then { s with cpu := { s.cpu with pc := rel, taken := true } } else s)))

/-- R600, R601: the stack primitives: SP moves by two, the high byte is written first and read last, and in stored
memory the low byte is at the new SP and the high byte above it. -/
def Obligations.StackPrimitives : Prop :=
  ∀ (v : Word) (s : State),
    push16 v s = setSp (s.cpu.sp - 2)
      (memWrite (s.cpu.sp - 2) (loByte v) (memWrite (s.cpu.sp - 1) (hiByte v) s)) ∧
    (let lo := memRead s.cpu.sp s
     let hi := memRead (s.cpu.sp + 1) lo.2
     pop16 s = (joinBytes hi.1 lo.1, setSp (s.cpu.sp + 2) hi.2)) ∧
    (Memory.wf s.mem.cells = true → isStored (s.cpu.sp - 1) → isStored (s.cpu.sp - 2) →
      (peek (s.cpu.sp - 2) (push16 v s)).toNat = v.toNat % 256 ∧
      (peek (s.cpu.sp - 1) (push16 v s)).toNat = v.toNat / 256 ∧ (pop16 (push16 v s)).1 = v)

/-- R610, R611, R616: CALL, CALL cc and RST push the address after the instruction and jump, and emit `CallEntered` with
the target; a call not taken changes nothing and emits nothing. -/
def Obligations.CallsAndRestarts : Prop :=
  ∀ (nn : Word) (s : State),
    let call (target : Word) : State := setPc target (push16 s.cpu.pc s)
    Decodes [0xCD, loByte nn, hiByte nn] (.callA16 nn) ∧
    exec (.callA16 nn) s = .next (call nn) ∧
    (∀ a0, controlHook a0 (.callA16 nn) (call nn) = emit (.callEntered a0 nn) (call nn)) ∧
    (∀ cc, Decodes [opByte (0xC4 + 8 * condCode cc), loByte nn, hiByte nn] (.ofCall cc nn) ∧
      let after := if condHolds cc s then setTaken true (call nn) else s
      exec (.ofCall cc nn) s = .next after ∧
      (s.cpu.taken = false → ∀ a0, controlHook a0 (.ofCall cc nn) after =
        if condHolds cc s then emit (.callEntered a0 nn) after else after)) ∧
    (∀ t, Decodes [opByte (0xC7 + 8 * rstCode t)] (.ofRst t) ∧
      let target := BitVec.ofNat 16 (8 * rstCode t)
      exec (.ofRst t) s = .next (call target) ∧
      (∀ a0, controlHook a0 (.ofRst t) (call target) = emit (.callEntered a0 target) (call target)))

/-- R612, R613, R614: RET, RET cc and RETI; RETI is RET; both emit `Returned` with the new PC; a return not taken reads
nothing and leaves SP. -/
def Obligations.Returns : Prop :=
  Decodes [0xC9] .ret ∧ Decodes [0xD9] .reti ∧
  ∀ s : State,
    let back : State := setPc (pop16 s).1 (pop16 s).2
    exec .ret s = .next back ∧ exec .reti s = .next back ∧
    (∀ a0, controlHook a0 .ret back = emit (.returned a0 (pop16 s).1) back ∧
      controlHook a0 .reti back = emit (.returned a0 (pop16 s).1) back) ∧
    (∀ cc, Decodes [opByte (0xC0 + 8 * condCode cc)] (.ofRet cc) ∧
      exec (.ofRet cc) s = .next (if condHolds cc s then setTaken true back else s))

/-- R621, R622: PUSH qq and POP qq. -/
def Obligations.PushAndPop : Prop :=
  ∀ (q : QQ) (s : State),
    Decodes [opByte (0xC5 + 16 * qqCode q)] (.ofPush q) ∧
    exec (.ofPush q) s = .next (push16 (pair (qqPair q) s) s) ∧
    Decodes [opByte (0xC1 + 16 * qqCode q)] (.ofPop q) ∧
    exec (.ofPop q) s = .next (setPair (qqPair q) (pop16 s).1 (pop16 s).2)

/-- PUSH then POP of the same register restores its value and leaves SP and every other register unchanged, wherever the
stack lies in stored memory (the property R622 quotes). -/
def Obligations.PushThenPopRestores : Prop :=
  ∀ (q : QQ) (s : State), Memory.wf s.mem.cells = true → isStored (s.cpu.sp - 1) → isStored (s.cpu.sp - 2) →
    ∃ t u, exec (.ofPush q) s = .next t ∧ exec (.ofPop q) t = .next u ∧ u.cpu = s.cpu

/-! Loads and stores -/

/-- R650 to R654: the 8-bit register, immediate and (HL) loads. -/
def Obligations.RegisterLoads : Prop :=
  ∀ (r r' : Reg8) (n : Byte) (s : State),
    Decodes [opByte (0x40 + 8 * regCode r + regCode r')] (.ofLd r r') ∧
    exec (.ofLd r r') s = .next (setReg r (reg r' s) s) ∧
    Decodes [opByte (0x46 + 8 * regCode r)] (.ofLdFromHl r) ∧
    exec (.ofLdFromHl r) s = .next (setReg r (memRead (pair .hl s) s).1 (memRead (pair .hl s) s).2) ∧
    Decodes [opByte (0x70 + regCode r)] (.ofLdToHl r) ∧
    exec (.ofLdToHl r) s = .next (memWrite (pair .hl s) (reg r s) s) ∧
    Decodes [opByte (0x06 + 8 * regCode r), n] (.ofLdImm r n) ∧
    exec (.ofLdImm r n) s = .next (setReg r n s) ∧
    Decodes [0x36, n] (.ldMhlD8 n) ∧
    exec (.ldMhlD8 n) s = .next (memWrite (pair .hl s) n s)

/-- R655 to R662: the accumulator loads and stores through BC, DE, (HL+) and (HL-). -/
def Obligations.IndirectLoads : Prop :=
  (Decodes [0x0A] .ldAMbc ∧ Decodes [0x1A] .ldAMde ∧ Decodes [0x02] .ldMbcA ∧ Decodes [0x12] .ldMdeA ∧
    Decodes [0x2A] .ldAMhli ∧ Decodes [0x3A] .ldAMhld ∧ Decodes [0x22] .ldMhliA ∧ Decodes [0x32] .ldMhldA) ∧
  ∀ s : State,
    let load (a : Word) : State := setReg .a (memRead a s).1 (memRead a s).2
    let store (a : Word) : State := memWrite a (reg .a s) s
    let hl := (pair .hl s).toNat
    let up := BitVec.ofNat 16 ((hl + 1) % 65536)
    let down := BitVec.ofNat 16 ((hl + 65535) % 65536)
    exec .ldAMbc s = .next (load (pair .bc s)) ∧ exec .ldAMde s = .next (load (pair .de s)) ∧
    exec .ldMbcA s = .next (store (pair .bc s)) ∧ exec .ldMdeA s = .next (store (pair .de s)) ∧
    exec .ldAMhli s = .next (setPair .hl up (load (pair .hl s))) ∧
    exec .ldAMhld s = .next (setPair .hl down (load (pair .hl s))) ∧
    exec .ldMhliA s = .next (setPair .hl up (store (pair .hl s))) ∧
    exec .ldMhldA s = .next (setPair .hl down (store (pair .hl s)))

/-- R663 to R668: the absolute and high-page forms; the page is 0xFF00 plus the byte. -/
def Obligations.AbsoluteAndHighPageLoads : Prop :=
  ∀ (nn : Word) (n : Byte) (s : State),
    let load (a : Word) : State := setReg .a (memRead a s).1 (memRead a s).2
    let store (a : Word) : State := memWrite a (reg .a s) s
    let page (x : Byte) : Word := BitVec.ofNat 16 (0xFF00 + x.toNat)
    Decodes [0xFA, loByte nn, hiByte nn] (.ldAMa16 nn) ∧ exec (.ldAMa16 nn) s = .next (load nn) ∧
    Decodes [0xEA, loByte nn, hiByte nn] (.ldMa16A nn) ∧ exec (.ldMa16A nn) s = .next (store nn) ∧
    Decodes [0xF0, n] (.ldhAMa8 n) ∧ exec (.ldhAMa8 n) s = .next (load (page n)) ∧
    Decodes [0xE0, n] (.ldhMa8A n) ∧ exec (.ldhMa8A n) s = .next (store (page n)) ∧
    Decodes [0xF2] .ldAMc ∧ exec .ldAMc s = .next (load (page (reg .c s))) ∧
    Decodes [0xE2] .ldMcA ∧ exec .ldMcA s = .next (store (page (reg .c s)))

/-- R669, R670, R671: the 16-bit loads; LD (a16),SP writes the low byte first, at a16. -/
def Obligations.WordLoads : Prop :=
  ∀ (p : RR) (nn : Word) (s : State),
    Decodes [opByte (0x01 + 16 * rrCode p), loByte nn, hiByte nn] (.ofLdRR p nn) ∧
    exec (.ofLdRR p nn) s = .next (setPair (rrPair p) nn s) ∧
    Decodes [0x08, loByte nn, hiByte nn] (.ldMa16Sp nn) ∧
    exec (.ldMa16Sp nn) s = .next (memWrite (nn + 1) (hiByte s.cpu.sp) (memWrite nn (loByte s.cpu.sp) s)) ∧
    Decodes [0xF9] .ldSpHl ∧
    exec .ldSpHl s = .next { s with cpu := { s.cpu with sp := pair .hl s } }

/-! NOP, the prefix and the opcodes without an entry -/

/-- R700, R706: NOP has no effect; the prefix has none of its own: it fetches the next byte and executes that entry of
the CB table. What the row of the bare prefix does in `exec` taken alone is the model's choice
(notes/assumptions/10.md): a step decodes the prefix and the next byte together. -/
def Obligations.NopAndPrefix : Prop :=
  Decodes [0x00] .nop ∧ (∀ op2, Decodes [0xCB, op2] (cbEntry op2)) ∧
  ∀ s : State,
    exec .nop s = .next s ∧
    ∃ t, exec .cbPrefix s = .next t ∧
      exec (cbEntry (memRead s.cpu.pc s).1) (setPc (s.cpu.pc + 1) (memRead s.cpu.pc s).2) = .next t

/-- R317, R801: an opcode without an entry sets Faulted with the opcode's own address and emits the event, and nothing
else; the CB table has no such opcode. That the DecodeError stands in `exec` and that the address there is PC - 1 are the
model's choice (notes/assumptions/14.md, 21.md). -/
def Obligations.NoEntryOpcodes : Prop :=
  (∀ op2 : Byte, (cbEntry op2).isNoEntry = false) ∧
  ∀ (i : Instr) (op : Byte), (i, op) ∈ noEntryOpcodes →
    Decodes [op] i ∧
    ∀ s : State, exec i s = .next { s with
      status := .faulted (.decodeError (s.cpu.pc - 1) op)
      out := s.out ++ [.fault (.decodeError (s.cpu.pc - 1) op)] }

/-! Frames -/

/-- Every backing byte but those of the addresses an instruction stores to is unchanged, an address below 0x8000 stores
nothing, and every other address reads as before, except that a read with PC = 0x0100 may have removed the overlay from
0x0000–0x00FF. `NopAndPrefix` says the same of the prefix through the CB entry it executes. -/
def Obligations.MemoryFrame : Prop :=
  ∀ (i : Instr) (s t : State), i ≠ .cbPrefix → exec i s = .next t →
    (∀ k, (∀ a ∈ storedTo i s, 0x8000 ≤ a.toNat → backing s.mem a ≠ some k) →
      cellsGet t.mem.cells k = cellsGet s.mem.cells k) ∧
    (∀ a, a ∉ storedTo i s → 0x0100 ≤ a.toNat ∨ t.mem.bootBound = s.mem.bootBound → peek a t = peek a s) ∧
    (t.mem.bootBound = s.mem.bootBound ∨ (s.mem.bootBound = true ∧ s.cpu.pc = 0x0100 ∧ t.mem.bootBound = false))

/-- Every register but an instruction's destinations is unchanged (`destRegs`: the destination, and HL where the
addressing mode steps it), and SP is unchanged unless the instruction writes or moves it (`movesSp`). -/
def Obligations.RegisterFrame : Prop :=
  ∀ (i : Instr) (s t : State), i ≠ .cbPrefix → exec i s = .next t →
    (∀ r, r ∉ destRegs i → reg r t = reg r s) ∧ (movesSp i = false → t.cpu.sp = s.cpu.sp)

/-- Each flag is unchanged, 0, 1 or computed as the instruction's "flags" column says (`flagColumn`). -/
def Obligations.FlagFrame : Prop :=
  ∀ (i : Instr) (s t : State), i ≠ .cbPrefix → exec i s = .next t →
    (flagColumn i).z.allows (getFlag .z s) (getFlag .z t) ∧ (flagColumn i).n.allows (getFlag .n s) (getFlag .n t) ∧
    (flagColumn i).h.allows (getFlag .h s) (getFlag .h t) ∧ (flagColumn i).c.allows (getFlag .c s) (getFlag .c t)

/-- No instruction changes the scheduler, the breakpoint maps, the configuration, the count of callbacks, the run flags, a bank
selector or the bank count; the output channel only grows; only an opcode without an entry or a refused placeholder
changes the status (R106, R110, R114, R116, R119, R830). -/
def Obligations.EngineFrame : Prop :=
  ∀ (i : Instr) (s t : State), exec i s = .next t →
    t.sched = s.sched ∧ t.dbg = s.dbg ∧ t.cfg = s.cfg ∧ t.callbacks = s.callbacks ∧ t.ties = s.ties ∧
    t.cpu.halted = s.cpu.halted ∧ t.cpu.stopped = s.cpu.stopped ∧
    (t.mem.romBanks = s.mem.romBanks ∧ t.mem.romBank = s.mem.romBank ∧ t.mem.eramBank = s.mem.eramBank ∧
      t.mem.wramBank = s.mem.wramBank ∧ t.mem.bankState = s.mem.bankState) ∧
    (∃ es, t.out = s.out ++ es) ∧
    (i.isNoEntry = false → (∀ n, ∀ x ∈ placeholderOpcodes n, i ≠ x.1) → t.status = s.status)
end

