-- ==== Sys2Proof/Laws/Memory.lean ====
section
/-! SUPPORT. Storage: read after write, every other byte, and the canonical form (20_memory.md R201, R246). -/

namespace Sys2Proof.Machine

theorem cellsGet_cons (k : Nat) (v : Byte) (rest : Cells) (key : Nat) :
    cellsGet ((k, v) :: rest) key = if k = key then v else cellsGet rest key := rfl

/-- A key that is not listed reads as the unlisted byte. -/
theorem cellsGet_of_lt (m : Cells) (lo key : Nat) (h : cellsWfFrom (some lo) m = true) (hk : key ≤ lo) :
    cellsGet m key = unlistedByte := by
  induction m generalizing lo with
  | nil => rfl
  | cons x rest ih =>
    obtain ⟨k, v⟩ := x
    simp only [cellsWfFrom, aboveBound, Bool.and_eq_true, decide_eq_true_eq] at h
    have hne : k ≠ key := by omega
    rw [cellsGet_cons, if_neg hne]
    exact ih k h.2 (by omega)

theorem cellsWfFrom_mono (m : Cells) (lo lo' : Nat) (h : cellsWfFrom (some lo) m = true) (hle : lo' ≤ lo) :
    cellsWfFrom (some lo') m = true := by
  cases m with
  | nil => rfl
  | cons x rest =>
    obtain ⟨k, v⟩ := x
    simp only [cellsWfFrom, aboveBound, Bool.and_eq_true, decide_eq_true_eq] at h ⊢
    exact ⟨⟨by omega, h.1.2⟩, h.2⟩

theorem cellsWfFrom_none (m : Cells) (lo : Nat) (h : cellsWfFrom (some lo) m = true) : cellsWfFrom none m = true := by
  cases m with
  | nil => rfl
  | cons x rest =>
    obtain ⟨k, v⟩ := x
    simp only [cellsWfFrom, aboveBound, Bool.and_eq_true, decide_eq_true_eq] at h ⊢
    exact ⟨⟨trivial, h.1.2⟩, h.2⟩

theorem cellsWfFrom_cellsCons (lo : Option Nat) (key : Nat) (v : Byte) (rest : Cells)
    (hlo : aboveBound lo key = true)
    (h : cellsWfFrom (some key) rest = true) : cellsWfFrom lo (cellsCons key v rest) = true := by
  unfold cellsCons
  split
  · cases lo with
    | none => exact cellsWfFrom_none rest key h
    | some l => exact cellsWfFrom_mono rest key l h (by simp only [aboveBound, decide_eq_true_eq] at hlo; omega)
  · rename_i hv
    simp only [cellsWfFrom, Bool.and_eq_true, decide_eq_true_eq]
    exact ⟨⟨hlo, hv⟩, h⟩

/-- Storing keeps the canonical form above any lower bound the key respects. -/
theorem cellsWfFrom_cellsPut (m : Cells) (lo : Option Nat) (key : Nat) (v : Byte) (h : cellsWfFrom lo m = true)
    (hlo : aboveBound lo key = true) :
    cellsWfFrom lo (cellsPut m key v) = true := by
  induction m generalizing lo with
  | nil => exact cellsWfFrom_cellsCons lo key v [] hlo rfl
  | cons x rest ih =>
    obtain ⟨k, w⟩ := x
    simp only [cellsWfFrom, aboveBound, Bool.and_eq_true, decide_eq_true_eq] at h
    unfold cellsPut
    split
    · rename_i hk
      refine cellsWfFrom_cellsCons lo key v _ hlo ?_
      simp only [cellsWfFrom, aboveBound, Bool.and_eq_true, decide_eq_true_eq]
      exact ⟨⟨hk, h.1.2⟩, h.2⟩
    · split
      · rename_i hk
        subst hk
        exact cellsWfFrom_cellsCons lo _ v rest hlo h.2
      · simp only [cellsWfFrom, aboveBound, Bool.and_eq_true, decide_eq_true_eq]
        exact ⟨h.1, ih (some k) h.2 (by simp only [aboveBound, decide_eq_true_eq]; omega)⟩

/-- Every store keeps the canonical form. -/
theorem Memory.wf_cellsPut (m : Cells) (key : Nat) (v : Byte) (h : Memory.wf m = true) :
    Memory.wf (cellsPut m key v) = true :=
  cellsWfFrom_cellsPut m none key v h rfl

/-- A block of stores keeps the canonical form. -/
theorem Memory.wf_cellsPutList (vs : List Byte) (m : Cells) (key : Nat) (h : Memory.wf m = true) :
    Memory.wf (cellsPutList m key vs) = true := by
  induction vs generalizing m key with
  | nil => exact h
  | cons v vs ih => exact ih _ _ (Memory.wf_cellsPut m key v h)

theorem cellsGet_cellsCons_ne (key : Nat) (v : Byte) (rest : Cells) (k : Nat) (h : k ≠ key) :
    cellsGet (cellsCons key v rest) k = cellsGet rest k := by
  unfold cellsCons
  split
  · rfl
  · rw [cellsGet_cons, if_neg (Ne.symm h)]

/-- A store leaves every other byte alone. -/
theorem cellsGet_cellsPut_ne (m : Cells) (key : Nat) (v : Byte) (k : Nat) (h : k ≠ key) :
    cellsGet (cellsPut m key v) k = cellsGet m k := by
  induction m with
  | nil => exact cellsGet_cellsCons_ne key v [] k h
  | cons x rest ih =>
    obtain ⟨k', w⟩ := x
    unfold cellsPut
    split
    · exact cellsGet_cellsCons_ne key v _ k h
    · split
      · rename_i hk
        rw [cellsGet_cellsCons_ne key v rest k h, cellsGet_cons, if_neg (by omega)]
      · simp only [cellsGet_cons, ih]

theorem cellsGet_cellsCons_same (key : Nat) (v : Byte) (rest : Cells) (h : cellsGet rest key = unlistedByte) :
    cellsGet (cellsCons key v rest) key = v := by
  unfold cellsCons
  split
  · rename_i hv; rw [h, hv]
  · rw [cellsGet_cons, if_pos rfl]

/-- Read after write. -/
theorem cellsGet_cellsPut_same (m : Cells) (key : Nat) (v : Byte) (lo : Option Nat) (h : cellsWfFrom lo m = true) :
    cellsGet (cellsPut m key v) key = v := by
  induction m generalizing lo with
  | nil => exact cellsGet_cellsCons_same key v [] rfl
  | cons x rest ih =>
    obtain ⟨k, w⟩ := x
    simp only [cellsWfFrom, aboveBound, Bool.and_eq_true, decide_eq_true_eq] at h
    unfold cellsPut
    split
    · rename_i hk
      refine cellsGet_cellsCons_same key v _ ?_
      rw [cellsGet_cons, if_neg (by omega)]
      exact cellsGet_of_lt rest k key h.2 (by omega)
    · split
      · rename_i hk
        subst hk
        exact cellsGet_cellsCons_same _ v rest (cellsGet_of_lt rest _ _ h.2 (Nat.le_refl _))
      · rename_i hk
        rw [cellsGet_cons, if_neg (by omega)]
        exact ih (some k) h.2

/-- Storing what an unlisted key reads as into empty storage stores nothing. -/
theorem cellsPut_nil_unlisted (key : Nat) : cellsPut [] key unlistedByte = [] := by
  simp [cellsPut, cellsCons]

theorem cellsPutList_nil_unlisted (n key : Nat) : cellsPutList [] key (List.replicate n unlistedByte) = [] := by
  induction n generalizing key with
  | zero => rfl
  | succ n ih => rw [List.replicate_succ, cellsPutList, cellsPut_nil_unlisted]; exact ih _

/-- A block leaves every byte outside it alone. -/
theorem cellsGet_cellsPutList_ne (vs : List Byte) (m : Cells) (key k : Nat) (h : k < key ∨ key + vs.length ≤ k) :
    cellsGet (cellsPutList m key vs) k = cellsGet m k := by
  induction vs generalizing m key with
  | nil => rfl
  | cons v vs ih =>
    simp only [List.length_cons] at h
    rw [cellsPutList, ih _ _ (by omega), cellsGet_cellsPut_ne _ _ _ _ (by omega)]

/-- A block reads back byte by byte. -/
theorem cellsGet_cellsPutList_mem (vs : List Byte) (m : Cells) (key j : Nat) (hm : Memory.wf m = true)
    (h : j < vs.length) : cellsGet (cellsPutList m key vs) (key + j) = vs[j] := by
  induction vs generalizing m key j with
  | nil => simp at h
  | cons v vs ih =>
    rw [cellsPutList]
    cases j with
    | zero =>
      rw [cellsGet_cellsPutList_ne _ _ _ _ (by omega)]
      simpa using cellsGet_cellsPut_same m key v none hm
    | succ j =>
      have := ih (cellsPut m key v) (key + 1) j (Memory.wf_cellsPut m key v hm) (by simpa using h)
      rw [show key + 1 + j = key + (j + 1) by omega] at this
      simpa using this

/-! The regions as intervals (R201) -/

/-- The first and the last address of a row of the region table. -/
def Region.ends : Region → Nat × Nat
  | .overlay => (0x0000, 0x00FF)
  | .rom0 => (0x0100, 0x3FFF)
  | .romx => (0x4000, 0x7FFF)
  | .vram => (0x8000, 0x9FFF)
  | .eram => (0xA000, 0xBFFF)
  | .wram0 => (0xC000, 0xCFFF)
  | .wramx => (0xD000, 0xDFFF)
  | .echo => (0xE000, 0xFDFF)
  | .oam => (0xFE00, 0xFE9F)
  | .unused => (0xFEA0, 0xFEFF)
  | .io => (0xFF00, 0xFF7F)
  | .hram => (0xFF80, 0xFFFE)
  | .ie => (0xFFFF, 0xFFFF)

theorem ite_intro {c : Prop} [Decidable c] {P : Region → Prop} {x y : Region} (h : c → P x) (h' : ¬c → P y) :
    P (if c then x else y) := by
  split
  · exact h ‹_›
  · exact h' ‹_›

/-- An address lies in the row `regionOf` names. -/
theorem regionOf_bounds (a : Word) : (regionOf a).ends.1 ≤ a.toNat ∧ a.toNat ≤ (regionOf a).ends.2 := by
  have := a.isLt
  suffices H : ∀ P : Region → Prop, (∀ r : Region, r.ends.1 ≤ a.toNat ∧ a.toNat ≤ r.ends.2 → P r) → P (regionOf a) from
    H _ (fun _ => id)
  intro P hP
  unfold regionOf
  iterate 12 refine ite_intro (fun _ => hP _ ?_) (fun _ => ?_); · simp only [Region.ends]; omega
  exact hP _ (by simp only [Region.ends]; omega)

/-- The rows do not overlap: an address between the ends of a row is in that row. -/
theorem regionOf_eq (a : Word) (r : Region) (h : r.ends.1 ≤ a.toNat) (h' : a.toNat ≤ r.ends.2) : regionOf a = r := by
  have hb := regionOf_bounds a
  generalize regionOf a = q at hb
  generalize a.toNat = n at h h' hb
  cases r <;> cases q <;> first | rfl | (simp only [Region.ends] at h h' hb; omega)

/-! The address decoder -/

/-- The key of a backing byte determines its address. -/
theorem cellKey_mod (bank : Nat) (a : Word) : cellKey bank a % 0x10000 = a.toNat := by
  have := a.isLt
  unfold cellKey
  omega

theorem backing_mod (m : Bus) (a : Word) (k : Nat) (h : backing m a = some k) : k % 0x10000 = a.toNat := by
  unfold backing at h
  split at h <;> simp only [Option.some.injEq, reduceCtorEq] at h <;> rw [← h, cellKey_mod]

/-- Two addresses never share a backing byte. -/
theorem backing_inj (m m' : Bus) (a b : Word) (k : Nat) (ha : backing m a = some k) (hb : backing m' b = some k) : a = b := by
  apply BitVec.eq_of_toNat_eq
  rw [← backing_mod m a k ha, ← backing_mod m' b k hb]

/-- The backing byte depends on the selectors and the overlay bit, not on what is stored. -/
theorem backing_cells (m : Bus) (c : Cells) (a : Word) : backing { m with cells := c } a = backing m a := rfl

@[simp] theorem busStore_romBanks (m : Bus) (a : Word) (v : Byte) : (busStore m a v).romBanks = m.romBanks := by
  unfold busStore; split <;> rfl
@[simp] theorem busStore_romBank (m : Bus) (a : Word) (v : Byte) : (busStore m a v).romBank = m.romBank := by
  unfold busStore; split <;> rfl
@[simp] theorem busStore_eramBank (m : Bus) (a : Word) (v : Byte) : (busStore m a v).eramBank = m.eramBank := by
  unfold busStore; split <;> rfl
@[simp] theorem busStore_wramBank (m : Bus) (a : Word) (v : Byte) : (busStore m a v).wramBank = m.wramBank := by
  unfold busStore; split <;> rfl
@[simp] theorem busStore_bootBound (m : Bus) (a : Word) (v : Byte) : (busStore m a v).bootBound = m.bootBound := by
  unfold busStore; split <;> rfl
@[simp] theorem busStore_bankState (m : Bus) (a : Word) (v : Byte) : (busStore m a v).bankState = m.bankState := by
  unfold busStore; split <;> rfl

theorem backing_busStore (m : Bus) (a b : Word) (v : Byte) : backing (busStore m a v) b = backing m b := by
  unfold busStore; split <;> rfl

/-- A store to an address keeps every byte that does not back it. -/
theorem cellsGet_busStore_ne (m : Bus) (a : Word) (v : Byte) (k : Nat) (h : backing m a ≠ some k) :
    cellsGet (busStore m a v).cells k = cellsGet m.cells k := by
  unfold busStore
  split
  · rename_i k' hk'
    exact cellsGet_cellsPut_ne _ _ _ _ (by rintro rfl; exact h hk')
  · rfl

/-- A store to an address keeps what every other address reads. -/
theorem busPeek_busStore_ne (m : Bus) (a b : Word) (v : Byte) (h : b ≠ a) : busPeek (busStore m a v) b = busPeek m b := by
  unfold busPeek
  rw [backing_busStore]
  split
  · rename_i k hk
    exact cellsGet_busStore_ne m a v k (fun ha => h (backing_inj m m b a k hk ha))
  · rfl

theorem wf_busStore (m : Bus) (a : Word) (v : Byte) (h : Memory.wf m.cells = true) :
    Memory.wf (busStore m a v).cells = true := by
  unfold busStore
  split
  · exact Memory.wf_cellsPut _ _ _ h
  · exact h

/-- A mapped address reads back what was stored. -/
theorem busPeek_busStore_same (m : Bus) (a : Word) (v : Byte) (k : Nat) (hk : backing m a = some k)
    (h : Memory.wf m.cells = true) : busPeek (busStore m a v) a = v := by
  unfold busPeek
  rw [backing_busStore, hk]
  simp only [busStore, hk]
  exact cellsGet_cellsPut_same _ _ _ none h

end Sys2Proof.Machine
end

