-- ==== Sys2Proof/Laws/State.lean ====
section
/-! SUPPORT. What each update of the state leaves in each field: one lemma for each field and update. -/

namespace Sys2Proof.Machine

/-! `setFlags` -/

@[simp] theorem setFlags_cpu_a (f : Flags) (s : State) : (setFlags f s).cpu.a = s.cpu.a := rfl
@[simp] theorem setFlags_cpu_flags (f : Flags) (s : State) : (setFlags f s).cpu.flags = f := rfl
@[simp] theorem setFlags_cpu_b (f : Flags) (s : State) : (setFlags f s).cpu.b = s.cpu.b := rfl
@[simp] theorem setFlags_cpu_c (f : Flags) (s : State) : (setFlags f s).cpu.c = s.cpu.c := rfl
@[simp] theorem setFlags_cpu_d (f : Flags) (s : State) : (setFlags f s).cpu.d = s.cpu.d := rfl
@[simp] theorem setFlags_cpu_e (f : Flags) (s : State) : (setFlags f s).cpu.e = s.cpu.e := rfl
@[simp] theorem setFlags_cpu_h (f : Flags) (s : State) : (setFlags f s).cpu.h = s.cpu.h := rfl
@[simp] theorem setFlags_cpu_l (f : Flags) (s : State) : (setFlags f s).cpu.l = s.cpu.l := rfl
@[simp] theorem setFlags_cpu_sp (f : Flags) (s : State) : (setFlags f s).cpu.sp = s.cpu.sp := rfl
@[simp] theorem setFlags_cpu_pc (f : Flags) (s : State) : (setFlags f s).cpu.pc = s.cpu.pc := rfl
@[simp] theorem setFlags_cpu_halted (f : Flags) (s : State) : (setFlags f s).cpu.halted = s.cpu.halted := rfl
@[simp] theorem setFlags_cpu_stopped (f : Flags) (s : State) : (setFlags f s).cpu.stopped = s.cpu.stopped := rfl
@[simp] theorem setFlags_cpu_taken (f : Flags) (s : State) : (setFlags f s).cpu.taken = s.cpu.taken := rfl
@[simp] theorem setFlags_mem (f : Flags) (s : State) : (setFlags f s).mem = s.mem := rfl
@[simp] theorem setFlags_sched (f : Flags) (s : State) : (setFlags f s).sched = s.sched := rfl
@[simp] theorem setFlags_dbg (f : Flags) (s : State) : (setFlags f s).dbg = s.dbg := rfl
@[simp] theorem setFlags_status (f : Flags) (s : State) : (setFlags f s).status = s.status := rfl
@[simp] theorem setFlags_cfg (f : Flags) (s : State) : (setFlags f s).cfg = s.cfg := rfl
@[simp] theorem setFlags_out (f : Flags) (s : State) : (setFlags f s).out = s.out := rfl
@[simp] theorem setFlags_callbacks (f : Flags) (s : State) : (setFlags f s).callbacks = s.callbacks := rfl
@[simp] theorem setFlags_ties (f : Flags) (s : State) : (setFlags f s).ties = s.ties := rfl

/-! `setSp` -/

@[simp] theorem setSp_cpu_a (v : Word) (s : State) : (setSp v s).cpu.a = s.cpu.a := rfl
@[simp] theorem setSp_cpu_flags (v : Word) (s : State) : (setSp v s).cpu.flags = s.cpu.flags := rfl
@[simp] theorem setSp_cpu_b (v : Word) (s : State) : (setSp v s).cpu.b = s.cpu.b := rfl
@[simp] theorem setSp_cpu_c (v : Word) (s : State) : (setSp v s).cpu.c = s.cpu.c := rfl
@[simp] theorem setSp_cpu_d (v : Word) (s : State) : (setSp v s).cpu.d = s.cpu.d := rfl
@[simp] theorem setSp_cpu_e (v : Word) (s : State) : (setSp v s).cpu.e = s.cpu.e := rfl
@[simp] theorem setSp_cpu_h (v : Word) (s : State) : (setSp v s).cpu.h = s.cpu.h := rfl
@[simp] theorem setSp_cpu_l (v : Word) (s : State) : (setSp v s).cpu.l = s.cpu.l := rfl
@[simp] theorem setSp_cpu_sp (v : Word) (s : State) : (setSp v s).cpu.sp = v := rfl
@[simp] theorem setSp_cpu_pc (v : Word) (s : State) : (setSp v s).cpu.pc = s.cpu.pc := rfl
@[simp] theorem setSp_cpu_halted (v : Word) (s : State) : (setSp v s).cpu.halted = s.cpu.halted := rfl
@[simp] theorem setSp_cpu_stopped (v : Word) (s : State) : (setSp v s).cpu.stopped = s.cpu.stopped := rfl
@[simp] theorem setSp_cpu_taken (v : Word) (s : State) : (setSp v s).cpu.taken = s.cpu.taken := rfl
@[simp] theorem setSp_mem (v : Word) (s : State) : (setSp v s).mem = s.mem := rfl
@[simp] theorem setSp_sched (v : Word) (s : State) : (setSp v s).sched = s.sched := rfl
@[simp] theorem setSp_dbg (v : Word) (s : State) : (setSp v s).dbg = s.dbg := rfl
@[simp] theorem setSp_status (v : Word) (s : State) : (setSp v s).status = s.status := rfl
@[simp] theorem setSp_cfg (v : Word) (s : State) : (setSp v s).cfg = s.cfg := rfl
@[simp] theorem setSp_out (v : Word) (s : State) : (setSp v s).out = s.out := rfl
@[simp] theorem setSp_callbacks (v : Word) (s : State) : (setSp v s).callbacks = s.callbacks := rfl
@[simp] theorem setSp_ties (v : Word) (s : State) : (setSp v s).ties = s.ties := rfl

/-! `setPc` -/

@[simp] theorem setPc_cpu_a (v : Word) (s : State) : (setPc v s).cpu.a = s.cpu.a := rfl
@[simp] theorem setPc_cpu_flags (v : Word) (s : State) : (setPc v s).cpu.flags = s.cpu.flags := rfl
@[simp] theorem setPc_cpu_b (v : Word) (s : State) : (setPc v s).cpu.b = s.cpu.b := rfl
@[simp] theorem setPc_cpu_c (v : Word) (s : State) : (setPc v s).cpu.c = s.cpu.c := rfl
@[simp] theorem setPc_cpu_d (v : Word) (s : State) : (setPc v s).cpu.d = s.cpu.d := rfl
@[simp] theorem setPc_cpu_e (v : Word) (s : State) : (setPc v s).cpu.e = s.cpu.e := rfl
@[simp] theorem setPc_cpu_h (v : Word) (s : State) : (setPc v s).cpu.h = s.cpu.h := rfl
@[simp] theorem setPc_cpu_l (v : Word) (s : State) : (setPc v s).cpu.l = s.cpu.l := rfl
@[simp] theorem setPc_cpu_sp (v : Word) (s : State) : (setPc v s).cpu.sp = s.cpu.sp := rfl
@[simp] theorem setPc_cpu_pc (v : Word) (s : State) : (setPc v s).cpu.pc = v := rfl
@[simp] theorem setPc_cpu_halted (v : Word) (s : State) : (setPc v s).cpu.halted = s.cpu.halted := rfl
@[simp] theorem setPc_cpu_stopped (v : Word) (s : State) : (setPc v s).cpu.stopped = s.cpu.stopped := rfl
@[simp] theorem setPc_cpu_taken (v : Word) (s : State) : (setPc v s).cpu.taken = s.cpu.taken := rfl
@[simp] theorem setPc_mem (v : Word) (s : State) : (setPc v s).mem = s.mem := rfl
@[simp] theorem setPc_sched (v : Word) (s : State) : (setPc v s).sched = s.sched := rfl
@[simp] theorem setPc_dbg (v : Word) (s : State) : (setPc v s).dbg = s.dbg := rfl
@[simp] theorem setPc_status (v : Word) (s : State) : (setPc v s).status = s.status := rfl
@[simp] theorem setPc_cfg (v : Word) (s : State) : (setPc v s).cfg = s.cfg := rfl
@[simp] theorem setPc_out (v : Word) (s : State) : (setPc v s).out = s.out := rfl
@[simp] theorem setPc_callbacks (v : Word) (s : State) : (setPc v s).callbacks = s.callbacks := rfl
@[simp] theorem setPc_ties (v : Word) (s : State) : (setPc v s).ties = s.ties := rfl

/-! `setTaken` -/

@[simp] theorem setTaken_cpu_a (v : Bool) (s : State) : (setTaken v s).cpu.a = s.cpu.a := rfl
@[simp] theorem setTaken_cpu_flags (v : Bool) (s : State) : (setTaken v s).cpu.flags = s.cpu.flags := rfl
@[simp] theorem setTaken_cpu_b (v : Bool) (s : State) : (setTaken v s).cpu.b = s.cpu.b := rfl
@[simp] theorem setTaken_cpu_c (v : Bool) (s : State) : (setTaken v s).cpu.c = s.cpu.c := rfl
@[simp] theorem setTaken_cpu_d (v : Bool) (s : State) : (setTaken v s).cpu.d = s.cpu.d := rfl
@[simp] theorem setTaken_cpu_e (v : Bool) (s : State) : (setTaken v s).cpu.e = s.cpu.e := rfl
@[simp] theorem setTaken_cpu_h (v : Bool) (s : State) : (setTaken v s).cpu.h = s.cpu.h := rfl
@[simp] theorem setTaken_cpu_l (v : Bool) (s : State) : (setTaken v s).cpu.l = s.cpu.l := rfl
@[simp] theorem setTaken_cpu_sp (v : Bool) (s : State) : (setTaken v s).cpu.sp = s.cpu.sp := rfl
@[simp] theorem setTaken_cpu_pc (v : Bool) (s : State) : (setTaken v s).cpu.pc = s.cpu.pc := rfl
@[simp] theorem setTaken_cpu_halted (v : Bool) (s : State) : (setTaken v s).cpu.halted = s.cpu.halted := rfl
@[simp] theorem setTaken_cpu_stopped (v : Bool) (s : State) : (setTaken v s).cpu.stopped = s.cpu.stopped := rfl
@[simp] theorem setTaken_cpu_taken (v : Bool) (s : State) : (setTaken v s).cpu.taken = v := rfl
@[simp] theorem setTaken_mem (v : Bool) (s : State) : (setTaken v s).mem = s.mem := rfl
@[simp] theorem setTaken_sched (v : Bool) (s : State) : (setTaken v s).sched = s.sched := rfl
@[simp] theorem setTaken_dbg (v : Bool) (s : State) : (setTaken v s).dbg = s.dbg := rfl
@[simp] theorem setTaken_status (v : Bool) (s : State) : (setTaken v s).status = s.status := rfl
@[simp] theorem setTaken_cfg (v : Bool) (s : State) : (setTaken v s).cfg = s.cfg := rfl
@[simp] theorem setTaken_out (v : Bool) (s : State) : (setTaken v s).out = s.out := rfl
@[simp] theorem setTaken_callbacks (v : Bool) (s : State) : (setTaken v s).callbacks = s.callbacks := rfl
@[simp] theorem setTaken_ties (v : Bool) (s : State) : (setTaken v s).ties = s.ties := rfl

/-! `setReg` -/

@[simp] theorem setReg_cpu_flags (r : Reg8) (v : Byte) (s : State) : (setReg r v s).cpu.flags = s.cpu.flags := by cases r <;> rfl
@[simp] theorem setReg_cpu_sp (r : Reg8) (v : Byte) (s : State) : (setReg r v s).cpu.sp = s.cpu.sp := by cases r <;> rfl
@[simp] theorem setReg_cpu_pc (r : Reg8) (v : Byte) (s : State) : (setReg r v s).cpu.pc = s.cpu.pc := by cases r <;> rfl
@[simp] theorem setReg_cpu_halted (r : Reg8) (v : Byte) (s : State) : (setReg r v s).cpu.halted = s.cpu.halted := by cases r <;> rfl
@[simp] theorem setReg_cpu_stopped (r : Reg8) (v : Byte) (s : State) : (setReg r v s).cpu.stopped = s.cpu.stopped := by cases r <;> rfl
@[simp] theorem setReg_cpu_taken (r : Reg8) (v : Byte) (s : State) : (setReg r v s).cpu.taken = s.cpu.taken := by cases r <;> rfl
@[simp] theorem setReg_mem (r : Reg8) (v : Byte) (s : State) : (setReg r v s).mem = s.mem := by cases r <;> rfl
@[simp] theorem setReg_sched (r : Reg8) (v : Byte) (s : State) : (setReg r v s).sched = s.sched := by cases r <;> rfl
@[simp] theorem setReg_dbg (r : Reg8) (v : Byte) (s : State) : (setReg r v s).dbg = s.dbg := by cases r <;> rfl
@[simp] theorem setReg_status (r : Reg8) (v : Byte) (s : State) : (setReg r v s).status = s.status := by cases r <;> rfl
@[simp] theorem setReg_cfg (r : Reg8) (v : Byte) (s : State) : (setReg r v s).cfg = s.cfg := by cases r <;> rfl
@[simp] theorem setReg_out (r : Reg8) (v : Byte) (s : State) : (setReg r v s).out = s.out := by cases r <;> rfl
@[simp] theorem setReg_callbacks (r : Reg8) (v : Byte) (s : State) : (setReg r v s).callbacks = s.callbacks := by cases r <;> rfl
@[simp] theorem setReg_ties (r : Reg8) (v : Byte) (s : State) : (setReg r v s).ties = s.ties := by cases r <;> rfl

/-! `setPair` -/

@[simp] theorem setPair_cpu_halted (p : Reg16) (v : Word) (s : State) : (setPair p v s).cpu.halted = s.cpu.halted := by cases p <;> rfl
@[simp] theorem setPair_cpu_stopped (p : Reg16) (v : Word) (s : State) : (setPair p v s).cpu.stopped = s.cpu.stopped := by cases p <;> rfl
@[simp] theorem setPair_cpu_taken (p : Reg16) (v : Word) (s : State) : (setPair p v s).cpu.taken = s.cpu.taken := by cases p <;> rfl
@[simp] theorem setPair_mem (p : Reg16) (v : Word) (s : State) : (setPair p v s).mem = s.mem := by cases p <;> rfl
@[simp] theorem setPair_sched (p : Reg16) (v : Word) (s : State) : (setPair p v s).sched = s.sched := by cases p <;> rfl
@[simp] theorem setPair_dbg (p : Reg16) (v : Word) (s : State) : (setPair p v s).dbg = s.dbg := by cases p <;> rfl
@[simp] theorem setPair_status (p : Reg16) (v : Word) (s : State) : (setPair p v s).status = s.status := by cases p <;> rfl
@[simp] theorem setPair_cfg (p : Reg16) (v : Word) (s : State) : (setPair p v s).cfg = s.cfg := by cases p <;> rfl
@[simp] theorem setPair_out (p : Reg16) (v : Word) (s : State) : (setPair p v s).out = s.out := by cases p <;> rfl
@[simp] theorem setPair_callbacks (p : Reg16) (v : Word) (s : State) : (setPair p v s).callbacks = s.callbacks := by cases p <;> rfl
@[simp] theorem setPair_ties (p : Reg16) (v : Word) (s : State) : (setPair p v s).ties = s.ties := by cases p <;> rfl

/-! `emit` -/

@[simp] theorem emit_cpu (e : OutEvent) (s : State) : (emit e s).cpu = s.cpu := rfl
@[simp] theorem emit_mem (e : OutEvent) (s : State) : (emit e s).mem = s.mem := rfl
@[simp] theorem emit_sched (e : OutEvent) (s : State) : (emit e s).sched = s.sched := rfl
@[simp] theorem emit_dbg (e : OutEvent) (s : State) : (emit e s).dbg = s.dbg := rfl
@[simp] theorem emit_status (e : OutEvent) (s : State) : (emit e s).status = s.status := rfl
@[simp] theorem emit_cfg (e : OutEvent) (s : State) : (emit e s).cfg = s.cfg := rfl
@[simp] theorem emit_out (e : OutEvent) (s : State) : (emit e s).out = s.out ++ [e] := rfl
@[simp] theorem emit_callbacks (e : OutEvent) (s : State) : (emit e s).callbacks = s.callbacks := rfl
@[simp] theorem emit_ties (e : OutEvent) (s : State) : (emit e s).ties = s.ties := rfl

/-! `setMem` -/

@[simp] theorem setMem_cpu (m : Bus) (s : State) : (setMem m s).cpu = s.cpu := rfl
@[simp] theorem setMem_mem (m : Bus) (s : State) : (setMem m s).mem = m := rfl
@[simp] theorem setMem_sched (m : Bus) (s : State) : (setMem m s).sched = s.sched := rfl
@[simp] theorem setMem_dbg (m : Bus) (s : State) : (setMem m s).dbg = s.dbg := rfl
@[simp] theorem setMem_status (m : Bus) (s : State) : (setMem m s).status = s.status := rfl
@[simp] theorem setMem_cfg (m : Bus) (s : State) : (setMem m s).cfg = s.cfg := rfl
@[simp] theorem setMem_out (m : Bus) (s : State) : (setMem m s).out = s.out := rfl
@[simp] theorem setMem_callbacks (m : Bus) (s : State) : (setMem m s).callbacks = s.callbacks := rfl
@[simp] theorem setMem_ties (m : Bus) (s : State) : (setMem m s).ties = s.ties := rfl

/-! `setStatus` -/

@[simp] theorem setStatus_cpu (v : Status) (s : State) : (setStatus v s).cpu = s.cpu := rfl
@[simp] theorem setStatus_mem (v : Status) (s : State) : (setStatus v s).mem = s.mem := rfl
@[simp] theorem setStatus_sched (v : Status) (s : State) : (setStatus v s).sched = s.sched := rfl
@[simp] theorem setStatus_dbg (v : Status) (s : State) : (setStatus v s).dbg = s.dbg := rfl
@[simp] theorem setStatus_status (v : Status) (s : State) : (setStatus v s).status = v := rfl
@[simp] theorem setStatus_cfg (v : Status) (s : State) : (setStatus v s).cfg = s.cfg := rfl
@[simp] theorem setStatus_out (v : Status) (s : State) : (setStatus v s).out = s.out := rfl
@[simp] theorem setStatus_callbacks (v : Status) (s : State) : (setStatus v s).callbacks = s.callbacks := rfl
@[simp] theorem setStatus_ties (v : Status) (s : State) : (setStatus v s).ties = s.ties := rfl

/-! `setSched` -/

@[simp] theorem setSched_cpu (c : Scheduler) (s : State) : (setSched c s).cpu = s.cpu := rfl
@[simp] theorem setSched_mem (c : Scheduler) (s : State) : (setSched c s).mem = s.mem := rfl
@[simp] theorem setSched_sched (c : Scheduler) (s : State) : (setSched c s).sched = c := rfl
@[simp] theorem setSched_dbg (c : Scheduler) (s : State) : (setSched c s).dbg = s.dbg := rfl
@[simp] theorem setSched_status (c : Scheduler) (s : State) : (setSched c s).status = s.status := rfl
@[simp] theorem setSched_cfg (c : Scheduler) (s : State) : (setSched c s).cfg = s.cfg := rfl
@[simp] theorem setSched_out (c : Scheduler) (s : State) : (setSched c s).out = s.out := rfl
@[simp] theorem setSched_callbacks (c : Scheduler) (s : State) : (setSched c s).callbacks = s.callbacks := rfl
@[simp] theorem setSched_ties (c : Scheduler) (s : State) : (setSched c s).ties = s.ties := rfl

/-! `setDbg` -/

@[simp] theorem setDbg_cpu (d : Debug) (s : State) : (setDbg d s).cpu = s.cpu := rfl
@[simp] theorem setDbg_mem (d : Debug) (s : State) : (setDbg d s).mem = s.mem := rfl
@[simp] theorem setDbg_sched (d : Debug) (s : State) : (setDbg d s).sched = s.sched := rfl
@[simp] theorem setDbg_dbg (d : Debug) (s : State) : (setDbg d s).dbg = d := rfl
@[simp] theorem setDbg_status (d : Debug) (s : State) : (setDbg d s).status = s.status := rfl
@[simp] theorem setDbg_cfg (d : Debug) (s : State) : (setDbg d s).cfg = s.cfg := rfl
@[simp] theorem setDbg_out (d : Debug) (s : State) : (setDbg d s).out = s.out := rfl
@[simp] theorem setDbg_callbacks (d : Debug) (s : State) : (setDbg d s).callbacks = s.callbacks := rfl
@[simp] theorem setDbg_ties (d : Debug) (s : State) : (setDbg d s).ties = s.ties := rfl

/-! `setCallbacks` -/

@[simp] theorem setCallbacks_cpu (n : Nat) (s : State) : (setCallbacks n s).cpu = s.cpu := rfl
@[simp] theorem setCallbacks_mem (n : Nat) (s : State) : (setCallbacks n s).mem = s.mem := rfl
@[simp] theorem setCallbacks_sched (n : Nat) (s : State) : (setCallbacks n s).sched = s.sched := rfl
@[simp] theorem setCallbacks_dbg (n : Nat) (s : State) : (setCallbacks n s).dbg = s.dbg := rfl
@[simp] theorem setCallbacks_status (n : Nat) (s : State) : (setCallbacks n s).status = s.status := rfl
@[simp] theorem setCallbacks_cfg (n : Nat) (s : State) : (setCallbacks n s).cfg = s.cfg := rfl
@[simp] theorem setCallbacks_out (n : Nat) (s : State) : (setCallbacks n s).out = s.out := rfl
@[simp] theorem setCallbacks_callbacks (n : Nat) (s : State) : (setCallbacks n s).callbacks = n := rfl
@[simp] theorem setCallbacks_ties (n : Nat) (s : State) : (setCallbacks n s).ties = s.ties := rfl

/-! `emitIf` -/

/-- `emitIf` appends at most its one event. -/
theorem emitIf_eq (b : Bool) (e : OutEvent) (s : State) :
    emitIf b e s = { s with out := s.out ++ (if b then [e] else []) } := by
  cases b <;> simp [emitIf, emit]

@[simp] theorem emitIf_cpu (b : Bool) (e : OutEvent) (s : State) : (emitIf b e s).cpu = s.cpu := by cases b <;> rfl
@[simp] theorem emitIf_mem (b : Bool) (e : OutEvent) (s : State) : (emitIf b e s).mem = s.mem := by cases b <;> rfl
@[simp] theorem emitIf_sched (b : Bool) (e : OutEvent) (s : State) : (emitIf b e s).sched = s.sched := by cases b <;> rfl
@[simp] theorem emitIf_dbg (b : Bool) (e : OutEvent) (s : State) : (emitIf b e s).dbg = s.dbg := by cases b <;> rfl
@[simp] theorem emitIf_status (b : Bool) (e : OutEvent) (s : State) : (emitIf b e s).status = s.status := by cases b <;> rfl
@[simp] theorem emitIf_cfg (b : Bool) (e : OutEvent) (s : State) : (emitIf b e s).cfg = s.cfg := by cases b <;> rfl
@[simp] theorem emitIf_out (b : Bool) (e : OutEvent) (s : State) : (emitIf b e s).out = s.out ++ (if b then [e] else []) := by simp [emitIf_eq]
@[simp] theorem emitIf_callbacks (b : Bool) (e : OutEvent) (s : State) : (emitIf b e s).callbacks = s.callbacks := by cases b <;> rfl
@[simp] theorem emitIf_ties (b : Bool) (e : OutEvent) (s : State) : (emitIf b e s).ties = s.ties := by cases b <;> rfl

end Sys2Proof.Machine
end

