-- ==== Sys2Proof/Laws/Regs.lean ====
section
/-! SUPPORT. Halves of a word, the register bank and the flag register (10_state.md R101 to R104). -/

namespace Sys2Proof

@[simp] theorem hiByte_joinBytes (hi lo : Byte) : hiByte (joinBytes hi lo) = hi := by
  unfold hiByte joinBytes
  apply BitVec.eq_of_getLsbD_eq
  intro i hi'
  simp only [BitVec.getLsbD_extractLsb', BitVec.getLsbD_append]
  simp [hi']

@[simp] theorem loByte_joinBytes (hi lo : Byte) : loByte (joinBytes hi lo) = lo := by
  unfold loByte joinBytes
  apply BitVec.eq_of_getLsbD_eq
  intro i hi'
  simp only [BitVec.getLsbD_extractLsb', BitVec.getLsbD_append]
  simp [hi']

@[simp] theorem joinBytes_hiByte_loByte (v : Word) : joinBytes (hiByte v) (loByte v) = v := by
  unfold hiByte loByte joinBytes
  apply BitVec.eq_of_getLsbD_eq
  intro i hi'
  simp only [BitVec.getLsbD_extractLsb', BitVec.getLsbD_append]
  by_cases h : i < 8
  · simp [h]
  · have h2 : i - 8 < 8 := by omega
    simp [h, h2, show 8 + (i - 8) = i by omega]

/-- A pair as a number: the first-named register is bits 15:8 (R101). -/
theorem joinBytes_toNat (hi lo : Byte) : (joinBytes hi lo).toNat = 256 * hi.toNat + lo.toNat := by
  have h := lo.isLt
  rw [show (joinBytes hi lo).toNat = hi.toNat <<< 8 ||| lo.toNat from BitVec.toNat_append ..]
  rw [← Nat.shiftLeft_add_eq_or_of_lt h hi.toNat, Nat.shiftLeft_eq]
  omega

theorem hiByte_toNat (v : Word) : (hiByte v).toNat = v.toNat / 256 := by
  have h := joinBytes_toNat (hiByte v) (loByte v)
  have hl := (loByte v).isLt
  rw [joinBytes_hiByte_loByte] at h
  omega

theorem loByte_toNat (v : Word) : (loByte v).toNat = v.toNat % 256 := by
  have h := joinBytes_toNat (hiByte v) (loByte v)
  have hl := (loByte v).isLt
  rw [joinBytes_hiByte_loByte] at h
  omega

namespace Machine

@[simp] theorem reg_setReg_same (r : Reg8) (v : Byte) (s : State) : reg r (setReg r v s) = v := by cases r <;> rfl

theorem reg_setReg_ne (r r' : Reg8) (v : Byte) (s : State) (h : r' ≠ r) : reg r' (setReg r v s) = reg r' s := by
  cases r <;> cases r' <;> first | rfl | exact absurd rfl h

@[simp] theorem reg_setFlags (r : Reg8) (f : Flags) (s : State) : reg r (setFlags f s) = reg r s := by cases r <;> rfl
@[simp] theorem reg_setSp (r : Reg8) (v : Word) (s : State) : reg r (setSp v s) = reg r s := by cases r <;> rfl
@[simp] theorem reg_setPc (r : Reg8) (v : Word) (s : State) : reg r (setPc v s) = reg r s := by cases r <;> rfl
@[simp] theorem reg_setTaken (r : Reg8) (v : Bool) (s : State) : reg r (setTaken v s) = reg r s := by cases r <;> rfl
@[simp] theorem reg_emit (r : Reg8) (e : OutEvent) (s : State) : reg r (emit e s) = reg r s := by cases r <;> rfl

/-- The registers are the cpu's: equal cpus read equal. -/
theorem reg_congr (r : Reg8) (s t : State) (h : t.cpu = s.cpu) : reg r t = reg r s := by cases r <;> simp [reg, h]

theorem pair_congr (p : Reg16) (s t : State) (h : t.cpu = s.cpu) : pair p t = pair p s := by cases p <;> simp [pair, h]

@[simp] theorem pair_setPair_bc (v : Word) (s : State) : pair .bc (setPair .bc v s) = v := joinBytes_hiByte_loByte v
@[simp] theorem pair_setPair_de (v : Word) (s : State) : pair .de (setPair .de v s) = v := joinBytes_hiByte_loByte v
@[simp] theorem pair_setPair_hl (v : Word) (s : State) : pair .hl (setPair .hl v s) = v := joinBytes_hiByte_loByte v
@[simp] theorem pair_setPair_sp (v : Word) (s : State) : pair .sp (setPair .sp v s) = v := rfl
@[simp] theorem pair_setPair_pc (v : Word) (s : State) : pair .pc (setPair .pc v s) = v := rfl

/-- F reads back as its four flags (R103). -/
@[simp] theorem flagsOfByte_flagsToByte (f : Flags) : flagsOfByte (flagsToByte f) = f := by
  obtain ⟨z, n, h, c⟩ := f
  revert z n h c
  decide

/-- A byte written to F reads back without its low nibble (R103). -/
theorem flagsToByte_flagsOfByte (v : Byte) : flagsToByte (flagsOfByte v) = v &&& 0xF0 := by
  revert v
  decide

/-- A write then read of AF: F's low nibble comes back as 0 (R103). -/
theorem pair_setPair_af (v : Word) (s : State) :
    pair .af (setPair .af v s) = joinBytes (hiByte v) (loByte v &&& 0xF0) := by
  show joinBytes (hiByte v) (flagsToByte (flagsOfByte (loByte v))) = _
  rw [flagsToByte_flagsOfByte]

end Machine
end Sys2Proof
end

