-- ==== Sys2Proof/Laws/Ports.lean ====
section
/-! SUPPORT. The read and write ports, field by field (20_memory.md R210, R215). -/

namespace Sys2Proof.Machine

/-! The boot unbind -/

theorem unbindIfDue_cases (s : State) :
    (s.mem.bootBound = true ∧ s.cpu.pc = 0x0100 ∧
      unbindIfDue s = emit .bootUnbound (setMem { s.mem with bootBound := false } s)) ∨
    (¬(s.mem.bootBound = true ∧ s.cpu.pc = 0x0100) ∧ unbindIfDue s = s) := by
  unfold unbindIfDue
  split
  · rename_i h; exact .inl ⟨h.1, h.2, rfl⟩
  · rename_i h; exact .inr ⟨h, rfl⟩

@[simp] theorem unbindIfDue_cpu (s : State) : (unbindIfDue s).cpu = s.cpu := by unfold unbindIfDue; split <;> rfl
@[simp] theorem unbindIfDue_sched (s : State) : (unbindIfDue s).sched = s.sched := by unfold unbindIfDue; split <;> rfl
@[simp] theorem unbindIfDue_dbg (s : State) : (unbindIfDue s).dbg = s.dbg := by unfold unbindIfDue; split <;> rfl
@[simp] theorem unbindIfDue_status (s : State) : (unbindIfDue s).status = s.status := by unfold unbindIfDue; split <;> rfl
@[simp] theorem unbindIfDue_cfg (s : State) : (unbindIfDue s).cfg = s.cfg := by unfold unbindIfDue; split <;> rfl
@[simp] theorem unbindIfDue_callbacks (s : State) : (unbindIfDue s).callbacks = s.callbacks := by
  unfold unbindIfDue; split <;> rfl
@[simp] theorem unbindIfDue_ties (s : State) : (unbindIfDue s).ties = s.ties := by unfold unbindIfDue; split <;> rfl
@[simp] theorem unbindIfDue_cells (s : State) : (unbindIfDue s).mem.cells = s.mem.cells := by
  unfold unbindIfDue; split <;> rfl

/-- The unbind changes the overlay bit and nothing else of the memory subsystem. -/
theorem unbindIfDue_mem (s : State) : (unbindIfDue s).mem = { s.mem with bootBound := (unbindIfDue s).mem.bootBound } := by
  unfold unbindIfDue; split <;> rfl

/-! Reads -/

@[simp] theorem memRead_fst (a : Word) (s : State) : (memRead a s).1 = peek a (unbindIfDue s) := rfl
@[simp] theorem memRead_snd (a : Word) (s : State) : (memRead a s).2 = readEffect a s := rfl

@[simp] theorem readEffect_cpu (a : Word) (s : State) : (readEffect a s).cpu = s.cpu := by simp [readEffect]
@[simp] theorem readEffect_sched (a : Word) (s : State) : (readEffect a s).sched = s.sched := by simp [readEffect]
@[simp] theorem readEffect_dbg (a : Word) (s : State) : (readEffect a s).dbg = s.dbg := by simp [readEffect]
@[simp] theorem readEffect_status (a : Word) (s : State) : (readEffect a s).status = s.status := by simp [readEffect]
@[simp] theorem readEffect_cfg (a : Word) (s : State) : (readEffect a s).cfg = s.cfg := by simp [readEffect]
@[simp] theorem readEffect_callbacks (a : Word) (s : State) : (readEffect a s).callbacks = s.callbacks := by
  simp [readEffect]
@[simp] theorem readEffect_ties (a : Word) (s : State) : (readEffect a s).ties = s.ties := by simp [readEffect]
@[simp] theorem readEffect_mem (a : Word) (s : State) : (readEffect a s).mem = (unbindIfDue s).mem := by simp [readEffect]
@[simp] theorem reg_readEffect (r : Reg8) (a : Word) (s : State) : reg r (readEffect a s) = reg r s :=
  reg_congr r s _ (readEffect_cpu a s)
@[simp] theorem pair_readEffect (p : Reg16) (a : Word) (s : State) : pair p (readEffect a s) = pair p s :=
  pair_congr p s _ (readEffect_cpu a s)

/-! Writes -/

@[simp] theorem bankControlWrite_eq (a : Word) (v : Byte) (s : State) : bankControlWrite a v s = s := by
  unfold bankControlWrite; split; rfl

@[simp] theorem storeByte_cpu (a : Word) (v : Byte) (s : State) : (storeByte a v s).cpu = s.cpu := by
  unfold storeByte; split <;> simp
@[simp] theorem storeByte_sched (a : Word) (v : Byte) (s : State) : (storeByte a v s).sched = s.sched := by
  unfold storeByte; split <;> simp
@[simp] theorem storeByte_dbg (a : Word) (v : Byte) (s : State) : (storeByte a v s).dbg = s.dbg := by
  unfold storeByte; split <;> simp
@[simp] theorem storeByte_status (a : Word) (v : Byte) (s : State) : (storeByte a v s).status = s.status := by
  unfold storeByte; split <;> simp
@[simp] theorem storeByte_cfg (a : Word) (v : Byte) (s : State) : (storeByte a v s).cfg = s.cfg := by
  unfold storeByte; split <;> simp
@[simp] theorem storeByte_out (a : Word) (v : Byte) (s : State) : (storeByte a v s).out = s.out := by
  unfold storeByte; split <;> simp
@[simp] theorem storeByte_callbacks (a : Word) (v : Byte) (s : State) : (storeByte a v s).callbacks = s.callbacks := by
  unfold storeByte; split <;> simp
@[simp] theorem storeByte_ties (a : Word) (v : Byte) (s : State) : (storeByte a v s).ties = s.ties := by
  unfold storeByte; split <;> simp

/-- The storage after a write: nothing below 0x8000, else the backing byte (R215, R221). -/
theorem storeByte_mem (a : Word) (v : Byte) (s : State) :
    (storeByte a v s).mem = if a.toNat ≤ 0x7FFF then s.mem else busStore s.mem a v := by
  unfold storeByte; split <;> simp

@[simp] theorem memWrite_cpu (a : Word) (v : Byte) (s : State) : (memWrite a v s).cpu = s.cpu := by simp [memWrite]
@[simp] theorem memWrite_sched (a : Word) (v : Byte) (s : State) : (memWrite a v s).sched = s.sched := by simp [memWrite]
@[simp] theorem memWrite_dbg (a : Word) (v : Byte) (s : State) : (memWrite a v s).dbg = s.dbg := by simp [memWrite]
@[simp] theorem memWrite_status (a : Word) (v : Byte) (s : State) : (memWrite a v s).status = s.status := by
  simp [memWrite]
@[simp] theorem memWrite_cfg (a : Word) (v : Byte) (s : State) : (memWrite a v s).cfg = s.cfg := by simp [memWrite]
@[simp] theorem memWrite_callbacks (a : Word) (v : Byte) (s : State) : (memWrite a v s).callbacks = s.callbacks := by
  simp [memWrite]
@[simp] theorem memWrite_ties (a : Word) (v : Byte) (s : State) : (memWrite a v s).ties = s.ties := by simp [memWrite]
@[simp] theorem reg_memWrite (r : Reg8) (a : Word) (v : Byte) (s : State) : reg r (memWrite a v s) = reg r s :=
  reg_congr r s _ (memWrite_cpu a v s)
@[simp] theorem pair_memWrite (p : Reg16) (a : Word) (v : Byte) (s : State) : pair p (memWrite a v s) = pair p s :=
  pair_congr p s _ (memWrite_cpu a v s)

theorem memWrite_mem (a : Word) (v : Byte) (s : State) :
    (memWrite a v s).mem = if a.toNat ≤ 0x7FFF then s.mem else busStore s.mem a v := by
  simp [memWrite, storeByte_mem]

/-- The events of a write, in order (R215). -/
theorem memWrite_out (a : Word) (v : Byte) (s : State) :
    (memWrite a v s).out = s.out ++ ((if s.cfg.diagAddr = some a then [.diagChar v] else []) ++
      (if s.dbg.wrBp.contains a.toNat then [.writeBreakpoint a v] else [])) := by
  simp [memWrite, List.append_assoc]

/-- A write keeps every stored byte that does not back its address. -/
theorem cellsGet_memWrite_ne (a : Word) (v : Byte) (s : State) (k : Nat) (h : backing s.mem a ≠ some k) :
    cellsGet (memWrite a v s).mem.cells k = cellsGet s.mem.cells k := by
  rw [memWrite_mem]
  split
  · rfl
  · exact cellsGet_busStore_ne s.mem a v k h

/-- No write changes a byte of `rom0`, `romx` or `boot` (R216). -/
theorem cellsGet_memWrite_rom (a : Word) (v : Byte) (s : State) (k : Nat) (h : isRomKey k) :
    cellsGet (memWrite a v s).mem.cells k = cellsGet s.mem.cells k := by
  rw [memWrite_mem]
  split
  · rfl
  · rename_i ha
    refine cellsGet_busStore_ne s.mem a v k (fun hk => ha ?_)
    rw [← backing_mod s.mem a k hk]
    exact h

/-- A write keeps the canonical form. -/
theorem wf_memWrite (a : Word) (v : Byte) (s : State) (h : Memory.wf s.mem.cells = true) :
    Memory.wf (memWrite a v s).mem.cells = true := by
  rw [memWrite_mem]
  split
  · exact h
  · exact wf_busStore s.mem a v h

/-- A write keeps the selectors and the overlay bit. -/
theorem memWrite_selectors (a : Word) (v : Byte) (s : State) :
    (memWrite a v s).mem.romBanks = s.mem.romBanks ∧ (memWrite a v s).mem.romBank = s.mem.romBank ∧
    (memWrite a v s).mem.eramBank = s.mem.eramBank ∧ (memWrite a v s).mem.wramBank = s.mem.wramBank ∧
    (memWrite a v s).mem.bankState = s.mem.bankState ∧ (memWrite a v s).mem.bootBound = s.mem.bootBound := by
  rw [memWrite_mem]
  split <;> simp

/-! What an address reads -/

/-- A stored address has a backing byte. -/
theorem isStored_backing (m : Bus) (a : Word) (h : isStored a) : ∃ k, backing m a = some k := by
  obtain ⟨h1, h2, h3⟩ := h
  have hb := regionOf_bounds a
  have e1 : regionOf a ≠ .echo := fun e => h2 (by simpa only [e, Region.ends] using hb)
  have e2 : regionOf a ≠ .unused := fun e => h3 (by simpa only [e, Region.ends] using hb)
  unfold backing
  generalize regionOf a = r at e1 e2 ⊢
  cases r <;> first | contradiction | exact ⟨_, rfl⟩

/-- Above the overlay's window the backing byte does not depend on the overlay bit. -/
theorem backing_bootBound (m : Bus) (b : Bool) (a : Word) (h : 0x0100 ≤ a.toNat) :
    backing { m with bootBound := b } a = backing m a := by
  have hr : regionOf a ≠ .overlay := by
    intro e
    have := (regionOf_bounds a).2
    simp only [e, Region.ends] at this
    omega
  unfold backing
  generalize regionOf a = r at hr ⊢
  cases r <;> first | contradiction | rfl

/-- The unbind changes what is read only in the overlay's window. -/
theorem peek_unbindIfDue (a : Word) (s : State) (h : 0x0100 ≤ a.toNat) : peek a (unbindIfDue s) = peek a s := by
  unfold peek busPeek
  rw [unbindIfDue_mem, backing_bootBound _ _ _ h]

theorem peek_memWrite_same (a : Word) (v : Byte) (s : State) (h : isStored a) (w : Memory.wf s.mem.cells = true) :
    peek a (memWrite a v s) = v := by
  obtain ⟨k, hk⟩ := isStored_backing s.mem a h
  unfold peek
  rw [memWrite_mem, if_neg (by unfold isStored at h; omega)]
  exact busPeek_busStore_same _ _ _ k hk w

theorem peek_memWrite_ne (a b : Word) (v : Byte) (s : State) (h : b ≠ a) : peek b (memWrite a v s) = peek b s := by
  unfold peek
  rw [memWrite_mem]
  split
  · rfl
  · exact busPeek_busStore_ne _ _ _ _ h

/-- A write does not look at the cpu. -/
theorem memWrite_with_cpu (a : Word) (v : Byte) (c : Cpu) (s : State) :
    memWrite a v { s with cpu := c } = { memWrite a v s with cpu := c } := by
  simp only [memWrite, storeByte, bankControlWrite, emitIf, emit, setMem]
  split <;> split <;> split <;> rfl

/-- A read does not look at SP. -/
theorem memRead_setSp (a v : Word) (s : State) : memRead a (setSp v s) = ((memRead a s).1, setSp v (memRead a s).2) := by
  unfold memRead readEffect unbindIfDue setSp
  simp only [emitIf, emit, setMem, peek]
  split <;> split <;> rfl

end Sys2Proof.Machine
end

