-- ==== Sys2Proof/Laws/Keeps.lean ====
section
/-! SUPPORT. What every operation an instruction is made of leaves alone, said once: `Keeps s t`. An instruction
changes no part of the scheduler, the breakpoint maps, the configuration or the callbacks, no selector and no ROM
byte; it only appends to the output channel, and removes the overlay only with its event. -/

namespace Sys2Proof.Machine

/-- How many times the overlay was removed, plus 1 while it is still bound: the quantity every step conserves
(R211). -/
def unbindSum (s : State) : Nat := s.out.count .bootUnbound + s.mem.bootBound.toNat

/-- What execution keeps. -/
structure Keeps (s t : State) : Prop where
  sched : t.sched = s.sched
  dbg : t.dbg = s.dbg
  cfg : t.cfg = s.cfg
  callbacks : t.callbacks = s.callbacks
  ties : t.ties = s.ties
  halted : t.cpu.halted = s.cpu.halted
  stopped : t.cpu.stopped = s.cpu.stopped
  romBanks : t.mem.romBanks = s.mem.romBanks
  romBank : t.mem.romBank = s.mem.romBank
  eramBank : t.mem.eramBank = s.mem.eramBank
  wramBank : t.mem.wramBank = s.mem.wramBank
  bankState : t.mem.bankState = s.mem.bankState
  wf : Memory.wf s.mem.cells = true → Memory.wf t.mem.cells = true
  rom : ∀ k, isRomKey k → cellsGet t.mem.cells k = cellsGet s.mem.cells k
  out : ∃ es, t.out = s.out ++ es
  unbind : unbindSum t = unbindSum s

theorem Keeps.refl (s : State) : Keeps s s where
  sched := rfl
  dbg := rfl
  cfg := rfl
  callbacks := rfl
  ties := rfl
  halted := rfl
  stopped := rfl
  romBanks := rfl
  romBank := rfl
  eramBank := rfl
  wramBank := rfl
  bankState := rfl
  wf := id
  rom := fun _ _ => rfl
  out := ⟨[], by simp⟩
  unbind := rfl

theorem Keeps.trans {s t u : State} (h : Keeps s t) (g : Keeps t u) : Keeps s u where
  sched := g.sched.trans h.sched
  dbg := g.dbg.trans h.dbg
  cfg := g.cfg.trans h.cfg
  callbacks := g.callbacks.trans h.callbacks
  ties := g.ties.trans h.ties
  halted := g.halted.trans h.halted
  stopped := g.stopped.trans h.stopped
  romBanks := g.romBanks.trans h.romBanks
  romBank := g.romBank.trans h.romBank
  eramBank := g.eramBank.trans h.eramBank
  wramBank := g.wramBank.trans h.wramBank
  bankState := g.bankState.trans h.bankState
  wf := fun w => g.wf (h.wf w)
  rom := fun k hk => (g.rom k hk).trans (h.rom k hk)
  out := by
    obtain ⟨es, he⟩ := h.out
    obtain ⟨fs, hf⟩ := g.out
    exact ⟨es ++ fs, by rw [hf, he, List.append_assoc]⟩
  unbind := g.unbind.trans h.unbind

/-- An update of the cpu that leaves the run flags alone. -/
theorem keeps_of_cpu {s t : State} (c : Cpu) (ht : t = { s with cpu := c }) (h1 : c.halted = s.cpu.halted)
    (h2 : c.stopped = s.cpu.stopped) : Keeps s t := by
  subst ht
  exact ⟨rfl, rfl, rfl, rfl, rfl, h1, h2, rfl, rfl, rfl, rfl, rfl, id, fun _ _ => rfl, ⟨[], by simp⟩, rfl⟩

/-- An event other than the unbind. -/
theorem keeps_emit (e : OutEvent) (s : State) (h : e ≠ .bootUnbound) : Keeps s (emit e s) :=
  ⟨rfl, rfl, rfl, rfl, rfl, rfl, rfl, rfl, rfl, rfl, rfl, rfl, id, fun _ _ => rfl, ⟨[e], rfl⟩, by
    simp [unbindSum, List.count_append, h]⟩

theorem keeps_emitIf (b : Bool) (e : OutEvent) (s : State) (h : e ≠ .bootUnbound) : Keeps s (emitIf b e s) := by
  cases b
  · exact Keeps.refl s
  · exact keeps_emit e s h

theorem keeps_setFlags (f : Flags) (s : State) : Keeps s (setFlags f s) := keeps_of_cpu _ rfl rfl rfl
theorem keeps_setSp (v : Word) (s : State) : Keeps s (setSp v s) := keeps_of_cpu _ rfl rfl rfl
theorem keeps_setPc (v : Word) (s : State) : Keeps s (setPc v s) := keeps_of_cpu _ rfl rfl rfl
theorem keeps_setTaken (v : Bool) (s : State) : Keeps s (setTaken v s) := keeps_of_cpu _ rfl rfl rfl
theorem keeps_setReg (r : Reg8) (v : Byte) (s : State) : Keeps s (setReg r v s) := by
  cases r <;> exact keeps_of_cpu _ rfl rfl rfl
theorem keeps_setPair (p : Reg16) (v : Word) (s : State) : Keeps s (setPair p v s) := by
  cases p <;> exact keeps_of_cpu _ rfl rfl rfl

/-- A status write keeps everything `Keeps` speaks of. -/
theorem keeps_setStatus (v : Status) (s : State) : Keeps s (setStatus v s) :=
  ⟨rfl, rfl, rfl, rfl, rfl, rfl, rfl, rfl, rfl, rfl, rfl, rfl, id, fun _ _ => rfl, ⟨[], by simp [setStatus]⟩, rfl⟩

theorem keeps_unbindIfDue (s : State) : Keeps s (unbindIfDue s) := by
  obtain ⟨hb, -, h⟩ | ⟨-, h⟩ := unbindIfDue_cases s
  · rw [h]
    exact ⟨rfl, rfl, rfl, rfl, rfl, rfl, rfl, rfl, rfl, rfl, rfl, rfl, id, fun _ _ => rfl, ⟨[.bootUnbound], rfl⟩, by
      simp [unbindSum, List.count_append, hb]⟩
  · rw [h]; exact Keeps.refl s

theorem keeps_readEffect (a : Word) (s : State) : Keeps s (readEffect a s) :=
  (keeps_unbindIfDue s).trans (keeps_emitIf _ _ _ (by simp))

theorem keeps_memWrite (a : Word) (v : Byte) (s : State) : Keeps s (memWrite a v s) := by
  have hs := memWrite_selectors a v s
  exact {
    sched := memWrite_sched a v s
    dbg := memWrite_dbg a v s
    cfg := memWrite_cfg a v s
    callbacks := memWrite_callbacks a v s
    ties := memWrite_ties a v s
    halted := by simp
    stopped := by simp
    romBanks := hs.1
    romBank := hs.2.1
    eramBank := hs.2.2.1
    wramBank := hs.2.2.2.1
    bankState := hs.2.2.2.2.1
    wf := wf_memWrite a v s
    rom := cellsGet_memWrite_rom a v s
    out := ⟨_, memWrite_out a v s⟩
    unbind := by
      unfold unbindSum
      rw [hs.2.2.2.2.2, memWrite_out]
      simp only [List.count_append]
      split <;> split <;> simp }

/-! The shared operations -/

theorem keeps_readR8 (r : R8) (s : State) : Keeps s (readR8 r s).2 := by
  cases r
  · exact Keeps.refl s
  · exact keeps_readEffect _ s

theorem keeps_writeR8 (r : R8) (v : Byte) (s : State) : Keeps s (writeR8 r v s) := by
  cases r
  · exact keeps_setReg _ _ s
  · exact keeps_memWrite _ _ s

theorem keeps_fetchByte (s : State) : Keeps s (fetchByte s).2 := (keeps_readEffect _ s).trans (keeps_setPc _ _)

theorem keeps_write16 (a v : Word) (s : State) : Keeps s (write16 a v s) :=
  (keeps_memWrite _ _ s).trans (keeps_memWrite _ _ _)

theorem keeps_push16 (v : Word) (s : State) : Keeps s (push16 v s) :=
  (((keeps_setSp _ s).trans (keeps_memWrite _ _ _)).trans (keeps_setSp _ _)).trans (keeps_memWrite _ _ _)

theorem keeps_pop16 (s : State) : Keeps s (pop16 s).2 :=
  (((keeps_readEffect _ s).trans (keeps_setSp _ _)).trans (keeps_readEffect _ _)).trans (keeps_setSp _ _)

theorem keeps_aluValue (op : AluOp) (v : Byte) (s : State) : Keeps s (aluValue op v s) := by
  cases op
  case cp => exact keeps_setFlags _ s
  all_goals exact (keeps_setReg _ _ s).trans (keeps_setFlags _ _)

theorem keeps_aluR8 (op : AluOp) (r : R8) (s : State) : Keeps s (aluR8 op r s) :=
  (keeps_readR8 r s).trans (keeps_aluValue op _ _)

theorem keeps_incR8 (r : R8) (s : State) : Keeps s (incR8 r s) :=
  ((keeps_readR8 r s).trans (keeps_writeR8 r _ _)).trans (keeps_setFlags _ _)

theorem keeps_decR8 (r : R8) (s : State) : Keeps s (decR8 r s) :=
  ((keeps_readR8 r s).trans (keeps_writeR8 r _ _)).trans (keeps_setFlags _ _)

theorem keeps_cplA (s : State) : Keeps s (cplA s) := (keeps_setReg _ _ s).trans (keeps_setFlags _ _)
theorem keeps_setCarry (s : State) : Keeps s (setCarry s) := keeps_setFlags _ s
theorem keeps_flipCarry (s : State) : Keeps s (flipCarry s) := keeps_setFlags _ s

theorem keeps_raiseDecodeError (op : Byte) (s : State) : Keeps s (raiseDecodeError op s) :=
  (keeps_setStatus _ s).trans (keeps_emit _ _ (by simp))

theorem keeps_placeholder (op : Byte) (len : Word) (s : State) : Keeps s (placeholder op len s) := by
  unfold placeholder
  split
  · exact (keeps_setStatus _ s).trans (keeps_emit _ _ (by simp))
  · exact Keeps.refl s

theorem keeps_addHlRR (p : RR) (s : State) : Keeps s (addHlRR p s) := (keeps_setPair _ _ s).trans (keeps_setFlags _ _)
theorem keeps_incRR (p : RR) (s : State) : Keeps s (incRR p s) := keeps_setPair _ _ s
theorem keeps_decRR (p : RR) (s : State) : Keeps s (decRR p s) := keeps_setPair _ _ s
theorem keeps_addSpOffset (u : Byte) (s : State) : Keeps s (addSpOffset u s) :=
  (keeps_setSp _ s).trans (keeps_setFlags _ _)
theorem keeps_ldHlSpOffset (u : Byte) (s : State) : Keeps s (ldHlSpOffset u s) :=
  (keeps_setPair _ _ s).trans (keeps_setFlags _ _)

theorem keeps_rotR8 (op : RotOp) (r : R8) (s : State) : Keeps s (rotR8 op r s) :=
  ((keeps_readR8 r s).trans (keeps_writeR8 r _ _)).trans (keeps_setFlags _ _)
theorem keeps_rotAcc (op : RotOp) (s : State) : Keeps s (rotAcc op s) :=
  (keeps_setReg _ _ s).trans (keeps_setFlags _ _)

theorem keeps_bitR8 (b : BitIx) (r : R8) (s : State) : Keeps s (bitR8 b r s) :=
  (keeps_readR8 r s).trans (keeps_setFlags _ _)
theorem keeps_resR8 (b : BitIx) (r : R8) (s : State) : Keeps s (resR8 b r s) :=
  (keeps_readR8 r s).trans (keeps_writeR8 r _ _)
theorem keeps_setR8 (b : BitIx) (r : R8) (s : State) : Keeps s (setR8 b r s) :=
  (keeps_readR8 r s).trans (keeps_writeR8 r _ _)

theorem keeps_ifCond (cc : Cond) (act : State → State) (s : State) (h : Keeps s (act s)) : Keeps s (ifCond cc act s) := by
  unfold ifCond
  split
  · exact h.trans (keeps_setTaken _ _)
  · exact Keeps.refl s

theorem keeps_jumpRel (u : Byte) (s : State) : Keeps s (jumpRel u s) := keeps_setPc _ s
theorem keeps_callTo (target : Word) (s : State) : Keeps s (callTo target s) := (keeps_push16 _ s).trans (keeps_setPc _ _)
theorem keeps_returnPop (s : State) : Keeps s (returnPop s) := (keeps_pop16 s).trans (keeps_setPc _ _)
theorem keeps_pushQQ (q : QQ) (s : State) : Keeps s (pushQQ q s) := keeps_push16 _ s
theorem keeps_popQQ (q : QQ) (s : State) : Keeps s (popQQ q s) := (keeps_pop16 s).trans (keeps_setPair _ _ _)

theorem keeps_loadReg (r : Reg8) (a : Word) (s : State) : Keeps s (loadReg r a s) :=
  (keeps_readEffect _ s).trans (keeps_setReg _ _ _)
theorem keeps_stepHl (d : Word) (s : State) : Keeps s (stepHl d s) := keeps_setPair _ _ s

theorem keeps_cbRule (op2 : Byte) (s : State) : Keeps s (cbRule op2 s) := by
  unfold cbRule
  simp only
  split
  · exact keeps_rotR8 _ _ s
  · exact keeps_bitR8 _ _ s
  · exact keeps_resR8 _ _ s
  · exact keeps_setR8 _ _ s

theorem keeps_prefixedEntry (s : State) : Keeps s (prefixedEntry s) := (keeps_fetchByte s).trans (keeps_cbRule _ _)

end Sys2Proof.Machine
end

