-- ==== Sys2Proof/Laws/Exec.lean ====
section
/-! SUPPORT. Every meaning answers a next state, and what it keeps, said once for all instructions. -/

namespace Sys2Proof.Machine

/-- Every instruction completes, and keeps what `Keeps` says. -/
theorem exec_next_keeps (i : Instr) (s : State) : ∃ t, exec i s = .next t ∧ Keeps s t :=
  match i with
  | .nop => ⟨_, rfl, Keeps.refl _⟩
  | .ldBcD16 _ => ⟨_, rfl, keeps_setPair _ _ _⟩
  | .ldMbcA => ⟨_, rfl, keeps_memWrite _ _ _⟩
  | .incBc => ⟨_, rfl, keeps_incRR _ _⟩
  | .incB => ⟨_, rfl, keeps_incR8 _ _⟩
  | .decB => ⟨_, rfl, keeps_decR8 _ _⟩
  | .ldBD8 _ => ⟨_, rfl, keeps_setReg _ _ _⟩
  | .rlca => ⟨_, rfl, keeps_rotAcc _ _⟩
  | .ldMa16Sp _ => ⟨_, rfl, keeps_write16 _ _ _⟩
  | .addHlBc => ⟨_, rfl, keeps_addHlRR _ _⟩
  | .ldAMbc => ⟨_, rfl, keeps_loadReg _ _ _⟩
  | .decBc => ⟨_, rfl, keeps_decRR _ _⟩
  | .incC => ⟨_, rfl, keeps_incR8 _ _⟩
  | .decC => ⟨_, rfl, keeps_decR8 _ _⟩
  | .ldCD8 _ => ⟨_, rfl, keeps_setReg _ _ _⟩
  | .rrca => ⟨_, rfl, keeps_rotAcc _ _⟩
  | .stop _ => ⟨_, rfl, keeps_placeholder _ _ _⟩
  | .ldDeD16 _ => ⟨_, rfl, keeps_setPair _ _ _⟩
  | .ldMdeA => ⟨_, rfl, keeps_memWrite _ _ _⟩
  | .incDe => ⟨_, rfl, keeps_incRR _ _⟩
  | .incD => ⟨_, rfl, keeps_incR8 _ _⟩
  | .decD => ⟨_, rfl, keeps_decR8 _ _⟩
  | .ldDD8 _ => ⟨_, rfl, keeps_setReg _ _ _⟩
  | .rla => ⟨_, rfl, keeps_rotAcc _ _⟩
  | .jrE8 _ => ⟨_, rfl, keeps_jumpRel _ _⟩
  | .addHlDe => ⟨_, rfl, keeps_addHlRR _ _⟩
  | .ldAMde => ⟨_, rfl, keeps_loadReg _ _ _⟩
  | .decDe => ⟨_, rfl, keeps_decRR _ _⟩
  | .incE => ⟨_, rfl, keeps_incR8 _ _⟩
  | .decE => ⟨_, rfl, keeps_decR8 _ _⟩
  | .ldED8 _ => ⟨_, rfl, keeps_setReg _ _ _⟩
  | .rra => ⟨_, rfl, keeps_rotAcc _ _⟩
  | .jrNzE8 _ => ⟨_, rfl, keeps_ifCond _ _ _ (keeps_jumpRel _ _)⟩
  | .ldHlD16 _ => ⟨_, rfl, keeps_setPair _ _ _⟩
  | .ldMhliA => ⟨_, rfl, (keeps_memWrite _ _ _).trans (keeps_stepHl _ _)⟩
  | .incHl => ⟨_, rfl, keeps_incRR _ _⟩
  | .incH => ⟨_, rfl, keeps_incR8 _ _⟩
  | .decH => ⟨_, rfl, keeps_decR8 _ _⟩
  | .ldHD8 _ => ⟨_, rfl, keeps_setReg _ _ _⟩
  | .daa => ⟨_, rfl, keeps_placeholder _ _ _⟩
  | .jrZE8 _ => ⟨_, rfl, keeps_ifCond _ _ _ (keeps_jumpRel _ _)⟩
  | .addHlHl => ⟨_, rfl, keeps_addHlRR _ _⟩
  | .ldAMhli => ⟨_, rfl, (keeps_loadReg _ _ _).trans (keeps_stepHl _ _)⟩
  | .decHl => ⟨_, rfl, keeps_decRR _ _⟩
  | .incL => ⟨_, rfl, keeps_incR8 _ _⟩
  | .decL => ⟨_, rfl, keeps_decR8 _ _⟩
  | .ldLD8 _ => ⟨_, rfl, keeps_setReg _ _ _⟩
  | .cpl => ⟨_, rfl, keeps_cplA _⟩
  | .jrNcE8 _ => ⟨_, rfl, keeps_ifCond _ _ _ (keeps_jumpRel _ _)⟩
  | .ldSpD16 _ => ⟨_, rfl, keeps_setPair _ _ _⟩
  | .ldMhldA => ⟨_, rfl, (keeps_memWrite _ _ _).trans (keeps_stepHl _ _)⟩
  | .incSp => ⟨_, rfl, keeps_incRR _ _⟩
  | .incMhl => ⟨_, rfl, keeps_incR8 _ _⟩
  | .decMhl => ⟨_, rfl, keeps_decR8 _ _⟩
  | .ldMhlD8 _ => ⟨_, rfl, keeps_memWrite _ _ _⟩
  | .scf => ⟨_, rfl, keeps_setCarry _⟩
  | .jrCE8 _ => ⟨_, rfl, keeps_ifCond _ _ _ (keeps_jumpRel _ _)⟩
  | .addHlSp => ⟨_, rfl, keeps_addHlRR _ _⟩
  | .ldAMhld => ⟨_, rfl, (keeps_loadReg _ _ _).trans (keeps_stepHl _ _)⟩
  | .decSp => ⟨_, rfl, keeps_decRR _ _⟩
  | .incA => ⟨_, rfl, keeps_incR8 _ _⟩
  | .decA => ⟨_, rfl, keeps_decR8 _ _⟩
  | .ldAD8 _ => ⟨_, rfl, keeps_setReg _ _ _⟩
  | .ccf => ⟨_, rfl, keeps_flipCarry _⟩
  | .ldBB => ⟨_, rfl, keeps_setReg _ _ _⟩
  | .ldBC => ⟨_, rfl, keeps_setReg _ _ _⟩
  | .ldBD => ⟨_, rfl, keeps_setReg _ _ _⟩
  | .ldBE => ⟨_, rfl, keeps_setReg _ _ _⟩
  | .ldBH => ⟨_, rfl, keeps_setReg _ _ _⟩
  | .ldBL => ⟨_, rfl, keeps_setReg _ _ _⟩
  | .ldBMhl => ⟨_, rfl, keeps_loadReg _ _ _⟩
  | .ldBA => ⟨_, rfl, keeps_setReg _ _ _⟩
  | .ldCB => ⟨_, rfl, keeps_setReg _ _ _⟩
  | .ldCC => ⟨_, rfl, keeps_setReg _ _ _⟩
  | .ldCD => ⟨_, rfl, keeps_setReg _ _ _⟩
  | .ldCE => ⟨_, rfl, keeps_setReg _ _ _⟩
  | .ldCH => ⟨_, rfl, keeps_setReg _ _ _⟩
  | .ldCL => ⟨_, rfl, keeps_setReg _ _ _⟩
  | .ldCMhl => ⟨_, rfl, keeps_loadReg _ _ _⟩
  | .ldCA => ⟨_, rfl, keeps_setReg _ _ _⟩
  | .ldDB => ⟨_, rfl, keeps_setReg _ _ _⟩
  | .ldDC => ⟨_, rfl, keeps_setReg _ _ _⟩
  | .ldDD => ⟨_, rfl, keeps_setReg _ _ _⟩
  | .ldDE => ⟨_, rfl, keeps_setReg _ _ _⟩
  | .ldDH => ⟨_, rfl, keeps_setReg _ _ _⟩
  | .ldDL => ⟨_, rfl, keeps_setReg _ _ _⟩
  | .ldDMhl => ⟨_, rfl, keeps_loadReg _ _ _⟩
  | .ldDA => ⟨_, rfl, keeps_setReg _ _ _⟩
  | .ldEB => ⟨_, rfl, keeps_setReg _ _ _⟩
  | .ldEC => ⟨_, rfl, keeps_setReg _ _ _⟩
  | .ldED => ⟨_, rfl, keeps_setReg _ _ _⟩
  | .ldEE => ⟨_, rfl, keeps_setReg _ _ _⟩
  | .ldEH => ⟨_, rfl, keeps_setReg _ _ _⟩
  | .ldEL => ⟨_, rfl, keeps_setReg _ _ _⟩
  | .ldEMhl => ⟨_, rfl, keeps_loadReg _ _ _⟩
  | .ldEA => ⟨_, rfl, keeps_setReg _ _ _⟩
  | .ldHB => ⟨_, rfl, keeps_setReg _ _ _⟩
  | .ldHC => ⟨_, rfl, keeps_setReg _ _ _⟩
  | .ldHD => ⟨_, rfl, keeps_setReg _ _ _⟩
  | .ldHE => ⟨_, rfl, keeps_setReg _ _ _⟩
  | .ldHH => ⟨_, rfl, keeps_setReg _ _ _⟩
  | .ldHL => ⟨_, rfl, keeps_setReg _ _ _⟩
  | .ldHMhl => ⟨_, rfl, keeps_loadReg _ _ _⟩
  | .ldHA => ⟨_, rfl, keeps_setReg _ _ _⟩
  | .ldLB => ⟨_, rfl, keeps_setReg _ _ _⟩
  | .ldLC => ⟨_, rfl, keeps_setReg _ _ _⟩
  | .ldLD => ⟨_, rfl, keeps_setReg _ _ _⟩
  | .ldLE => ⟨_, rfl, keeps_setReg _ _ _⟩
  | .ldLH => ⟨_, rfl, keeps_setReg _ _ _⟩
  | .ldLL => ⟨_, rfl, keeps_setReg _ _ _⟩
  | .ldLMhl => ⟨_, rfl, keeps_loadReg _ _ _⟩
  | .ldLA => ⟨_, rfl, keeps_setReg _ _ _⟩
  | .ldMhlB => ⟨_, rfl, keeps_memWrite _ _ _⟩
  | .ldMhlC => ⟨_, rfl, keeps_memWrite _ _ _⟩
  | .ldMhlD => ⟨_, rfl, keeps_memWrite _ _ _⟩
  | .ldMhlE => ⟨_, rfl, keeps_memWrite _ _ _⟩
  | .ldMhlH => ⟨_, rfl, keeps_memWrite _ _ _⟩
  | .ldMhlL => ⟨_, rfl, keeps_memWrite _ _ _⟩
  | .halt => ⟨_, rfl, keeps_placeholder _ _ _⟩
  | .ldMhlA => ⟨_, rfl, keeps_memWrite _ _ _⟩
  | .ldAB => ⟨_, rfl, keeps_setReg _ _ _⟩
  | .ldAC => ⟨_, rfl, keeps_setReg _ _ _⟩
  | .ldAD => ⟨_, rfl, keeps_setReg _ _ _⟩
  | .ldAE => ⟨_, rfl, keeps_setReg _ _ _⟩
  | .ldAH => ⟨_, rfl, keeps_setReg _ _ _⟩
  | .ldAL => ⟨_, rfl, keeps_setReg _ _ _⟩
  | .ldAMhl => ⟨_, rfl, keeps_loadReg _ _ _⟩
  | .ldAA => ⟨_, rfl, keeps_setReg _ _ _⟩
  | .addAB => ⟨_, rfl, keeps_aluR8 _ _ _⟩
  | .addAC => ⟨_, rfl, keeps_aluR8 _ _ _⟩
  | .addAD => ⟨_, rfl, keeps_aluR8 _ _ _⟩
  | .addAE => ⟨_, rfl, keeps_aluR8 _ _ _⟩
  | .addAH => ⟨_, rfl, keeps_aluR8 _ _ _⟩
  | .addAL => ⟨_, rfl, keeps_aluR8 _ _ _⟩
  | .addAMhl => ⟨_, rfl, keeps_aluR8 _ _ _⟩
  | .addAA => ⟨_, rfl, keeps_aluR8 _ _ _⟩
  | .adcAB => ⟨_, rfl, keeps_aluR8 _ _ _⟩
  | .adcAC => ⟨_, rfl, keeps_aluR8 _ _ _⟩
  | .adcAD => ⟨_, rfl, keeps_aluR8 _ _ _⟩
  | .adcAE => ⟨_, rfl, keeps_aluR8 _ _ _⟩
  | .adcAH => ⟨_, rfl, keeps_aluR8 _ _ _⟩
  | .adcAL => ⟨_, rfl, keeps_aluR8 _ _ _⟩
  | .adcAMhl => ⟨_, rfl, keeps_aluR8 _ _ _⟩
  | .adcAA => ⟨_, rfl, keeps_aluR8 _ _ _⟩
  | .subB => ⟨_, rfl, keeps_aluR8 _ _ _⟩
  | .subC => ⟨_, rfl, keeps_aluR8 _ _ _⟩
  | .subD => ⟨_, rfl, keeps_aluR8 _ _ _⟩
  | .subE => ⟨_, rfl, keeps_aluR8 _ _ _⟩
  | .subH => ⟨_, rfl, keeps_aluR8 _ _ _⟩
  | .subL => ⟨_, rfl, keeps_aluR8 _ _ _⟩
  | .subMhl => ⟨_, rfl, keeps_aluR8 _ _ _⟩
  | .subA => ⟨_, rfl, keeps_aluR8 _ _ _⟩
  | .sbcAB => ⟨_, rfl, keeps_aluR8 _ _ _⟩
  | .sbcAC => ⟨_, rfl, keeps_aluR8 _ _ _⟩
  | .sbcAD => ⟨_, rfl, keeps_aluR8 _ _ _⟩
  | .sbcAE => ⟨_, rfl, keeps_aluR8 _ _ _⟩
  | .sbcAH => ⟨_, rfl, keeps_aluR8 _ _ _⟩
  | .sbcAL => ⟨_, rfl, keeps_aluR8 _ _ _⟩
  | .sbcAMhl => ⟨_, rfl, keeps_aluR8 _ _ _⟩
  | .sbcAA => ⟨_, rfl, keeps_aluR8 _ _ _⟩
  | .andB => ⟨_, rfl, keeps_aluR8 _ _ _⟩
  | .andC => ⟨_, rfl, keeps_aluR8 _ _ _⟩
  | .andD => ⟨_, rfl, keeps_aluR8 _ _ _⟩
  | .andE => ⟨_, rfl, keeps_aluR8 _ _ _⟩
  | .andH => ⟨_, rfl, keeps_aluR8 _ _ _⟩
  | .andL => ⟨_, rfl, keeps_aluR8 _ _ _⟩
  | .andMhl => ⟨_, rfl, keeps_aluR8 _ _ _⟩
  | .andA => ⟨_, rfl, keeps_aluR8 _ _ _⟩
  | .xorB => ⟨_, rfl, keeps_aluR8 _ _ _⟩
  | .xorC => ⟨_, rfl, keeps_aluR8 _ _ _⟩
  | .xorD => ⟨_, rfl, keeps_aluR8 _ _ _⟩
  | .xorE => ⟨_, rfl, keeps_aluR8 _ _ _⟩
  | .xorH => ⟨_, rfl, keeps_aluR8 _ _ _⟩
  | .xorL => ⟨_, rfl, keeps_aluR8 _ _ _⟩
  | .xorMhl => ⟨_, rfl, keeps_aluR8 _ _ _⟩
  | .xorA => ⟨_, rfl, keeps_aluR8 _ _ _⟩
  | .orB => ⟨_, rfl, keeps_aluR8 _ _ _⟩
  | .orC => ⟨_, rfl, keeps_aluR8 _ _ _⟩
  | .orD => ⟨_, rfl, keeps_aluR8 _ _ _⟩
  | .orE => ⟨_, rfl, keeps_aluR8 _ _ _⟩
  | .orH => ⟨_, rfl, keeps_aluR8 _ _ _⟩
  | .orL => ⟨_, rfl, keeps_aluR8 _ _ _⟩
  | .orMhl => ⟨_, rfl, keeps_aluR8 _ _ _⟩
  | .orA => ⟨_, rfl, keeps_aluR8 _ _ _⟩
  | .cpB => ⟨_, rfl, keeps_aluR8 _ _ _⟩
  | .cpC => ⟨_, rfl, keeps_aluR8 _ _ _⟩
  | .cpD => ⟨_, rfl, keeps_aluR8 _ _ _⟩
  | .cpE => ⟨_, rfl, keeps_aluR8 _ _ _⟩
  | .cpH => ⟨_, rfl, keeps_aluR8 _ _ _⟩
  | .cpL => ⟨_, rfl, keeps_aluR8 _ _ _⟩
  | .cpMhl => ⟨_, rfl, keeps_aluR8 _ _ _⟩
  | .cpA => ⟨_, rfl, keeps_aluR8 _ _ _⟩
  | .retNz => ⟨_, rfl, keeps_ifCond _ _ _ (keeps_returnPop _)⟩
  | .popBc => ⟨_, rfl, keeps_popQQ _ _⟩
  | .jpNzA16 _ => ⟨_, rfl, keeps_ifCond _ _ _ (keeps_setPc _ _)⟩
  | .jpA16 _ => ⟨_, rfl, keeps_setPc _ _⟩
  | .callNzA16 _ => ⟨_, rfl, keeps_ifCond _ _ _ (keeps_callTo _ _)⟩
  | .pushBc => ⟨_, rfl, keeps_pushQQ _ _⟩
  | .addAD8 _ => ⟨_, rfl, keeps_aluValue _ _ _⟩
  | .rst00 => ⟨_, rfl, keeps_callTo _ _⟩
  | .retZ => ⟨_, rfl, keeps_ifCond _ _ _ (keeps_returnPop _)⟩
  | .ret => ⟨_, rfl, keeps_returnPop _⟩
  | .jpZA16 _ => ⟨_, rfl, keeps_ifCond _ _ _ (keeps_setPc _ _)⟩
  | .cbPrefix => ⟨_, rfl, keeps_prefixedEntry _⟩
  | .callZA16 _ => ⟨_, rfl, keeps_ifCond _ _ _ (keeps_callTo _ _)⟩
  | .callA16 _ => ⟨_, rfl, keeps_callTo _ _⟩
  | .adcAD8 _ => ⟨_, rfl, keeps_aluValue _ _ _⟩
  | .rst08 => ⟨_, rfl, keeps_callTo _ _⟩
  | .retNc => ⟨_, rfl, keeps_ifCond _ _ _ (keeps_returnPop _)⟩
  | .popDe => ⟨_, rfl, keeps_popQQ _ _⟩
  | .jpNcA16 _ => ⟨_, rfl, keeps_ifCond _ _ _ (keeps_setPc _ _)⟩
  | .noEntryD3 => ⟨_, rfl, keeps_raiseDecodeError _ _⟩
  | .callNcA16 _ => ⟨_, rfl, keeps_ifCond _ _ _ (keeps_callTo _ _)⟩
  | .pushDe => ⟨_, rfl, keeps_pushQQ _ _⟩
  | .subD8 _ => ⟨_, rfl, keeps_aluValue _ _ _⟩
  | .rst10 => ⟨_, rfl, keeps_callTo _ _⟩
  | .retC => ⟨_, rfl, keeps_ifCond _ _ _ (keeps_returnPop _)⟩
  | .reti => ⟨_, rfl, keeps_returnPop _⟩
  | .jpCA16 _ => ⟨_, rfl, keeps_ifCond _ _ _ (keeps_setPc _ _)⟩
  | .noEntryDB => ⟨_, rfl, keeps_raiseDecodeError _ _⟩
  | .callCA16 _ => ⟨_, rfl, keeps_ifCond _ _ _ (keeps_callTo _ _)⟩
  | .noEntryDD => ⟨_, rfl, keeps_raiseDecodeError _ _⟩
  | .sbcAD8 _ => ⟨_, rfl, keeps_aluValue _ _ _⟩
  | .rst18 => ⟨_, rfl, keeps_callTo _ _⟩
  | .ldhMa8A _ => ⟨_, rfl, keeps_memWrite _ _ _⟩
  | .popHl => ⟨_, rfl, keeps_popQQ _ _⟩
  | .ldMcA => ⟨_, rfl, keeps_memWrite _ _ _⟩
  | .noEntryE3 => ⟨_, rfl, keeps_raiseDecodeError _ _⟩
  | .noEntryE4 => ⟨_, rfl, keeps_raiseDecodeError _ _⟩
  | .pushHl => ⟨_, rfl, keeps_pushQQ _ _⟩
  | .andD8 _ => ⟨_, rfl, keeps_aluValue _ _ _⟩
  | .rst20 => ⟨_, rfl, keeps_callTo _ _⟩
  | .addSpE8 _ => ⟨_, rfl, keeps_addSpOffset _ _⟩
  | .jpHl => ⟨_, rfl, keeps_setPc _ _⟩
  | .ldMa16A _ => ⟨_, rfl, keeps_memWrite _ _ _⟩
  | .noEntryEB => ⟨_, rfl, keeps_raiseDecodeError _ _⟩
  | .noEntryEC => ⟨_, rfl, keeps_raiseDecodeError _ _⟩
  | .noEntryED => ⟨_, rfl, keeps_raiseDecodeError _ _⟩
  | .xorD8 _ => ⟨_, rfl, keeps_aluValue _ _ _⟩
  | .rst28 => ⟨_, rfl, keeps_callTo _ _⟩
  | .ldhAMa8 _ => ⟨_, rfl, keeps_loadReg _ _ _⟩
  | .popAf => ⟨_, rfl, keeps_popQQ _ _⟩
  | .ldAMc => ⟨_, rfl, keeps_loadReg _ _ _⟩
  | .di => ⟨_, rfl, keeps_placeholder _ _ _⟩
  | .noEntryF4 => ⟨_, rfl, keeps_raiseDecodeError _ _⟩
  | .pushAf => ⟨_, rfl, keeps_pushQQ _ _⟩
  | .orD8 _ => ⟨_, rfl, keeps_aluValue _ _ _⟩
  | .rst30 => ⟨_, rfl, keeps_callTo _ _⟩
  | .ldHlSpE8 _ => ⟨_, rfl, keeps_ldHlSpOffset _ _⟩
  | .ldSpHl => ⟨_, rfl, keeps_setSp _ _⟩
  | .ldAMa16 _ => ⟨_, rfl, keeps_loadReg _ _ _⟩
  | .ei => ⟨_, rfl, keeps_placeholder _ _ _⟩
  | .noEntryFC => ⟨_, rfl, keeps_raiseDecodeError _ _⟩
  | .noEntryFD => ⟨_, rfl, keeps_raiseDecodeError _ _⟩
  | .cpD8 _ => ⟨_, rfl, keeps_aluValue _ _ _⟩
  | .rst38 => ⟨_, rfl, keeps_callTo _ _⟩
  | .rlcB => ⟨_, rfl, keeps_rotR8 _ _ _⟩
  | .rlcC => ⟨_, rfl, keeps_rotR8 _ _ _⟩
  | .rlcD => ⟨_, rfl, keeps_rotR8 _ _ _⟩
  | .rlcE => ⟨_, rfl, keeps_rotR8 _ _ _⟩
  | .rlcH => ⟨_, rfl, keeps_rotR8 _ _ _⟩
  | .rlcL => ⟨_, rfl, keeps_rotR8 _ _ _⟩
  | .rlcMhl => ⟨_, rfl, keeps_rotR8 _ _ _⟩
  | .rlcA => ⟨_, rfl, keeps_rotR8 _ _ _⟩
  | .rrcB => ⟨_, rfl, keeps_rotR8 _ _ _⟩
  | .rrcC => ⟨_, rfl, keeps_rotR8 _ _ _⟩
  | .rrcD => ⟨_, rfl, keeps_rotR8 _ _ _⟩
  | .rrcE => ⟨_, rfl, keeps_rotR8 _ _ _⟩
  | .rrcH => ⟨_, rfl, keeps_rotR8 _ _ _⟩
  | .rrcL => ⟨_, rfl, keeps_rotR8 _ _ _⟩
  | .rrcMhl => ⟨_, rfl, keeps_rotR8 _ _ _⟩
  | .rrcA => ⟨_, rfl, keeps_rotR8 _ _ _⟩
  | .rlB => ⟨_, rfl, keeps_rotR8 _ _ _⟩
  | .rlC => ⟨_, rfl, keeps_rotR8 _ _ _⟩
  | .rlD => ⟨_, rfl, keeps_rotR8 _ _ _⟩
  | .rlE => ⟨_, rfl, keeps_rotR8 _ _ _⟩
  | .rlH => ⟨_, rfl, keeps_rotR8 _ _ _⟩
  | .rlL => ⟨_, rfl, keeps_rotR8 _ _ _⟩
  | .rlMhl => ⟨_, rfl, keeps_rotR8 _ _ _⟩
  | .rlA => ⟨_, rfl, keeps_rotR8 _ _ _⟩
  | .rrB => ⟨_, rfl, keeps_rotR8 _ _ _⟩
  | .rrC => ⟨_, rfl, keeps_rotR8 _ _ _⟩
  | .rrD => ⟨_, rfl, keeps_rotR8 _ _ _⟩
  | .rrE => ⟨_, rfl, keeps_rotR8 _ _ _⟩
  | .rrH => ⟨_, rfl, keeps_rotR8 _ _ _⟩
  | .rrL => ⟨_, rfl, keeps_rotR8 _ _ _⟩
  | .rrMhl => ⟨_, rfl, keeps_rotR8 _ _ _⟩
  | .rrA => ⟨_, rfl, keeps_rotR8 _ _ _⟩
  | .slaB => ⟨_, rfl, keeps_rotR8 _ _ _⟩
  | .slaC => ⟨_, rfl, keeps_rotR8 _ _ _⟩
  | .slaD => ⟨_, rfl, keeps_rotR8 _ _ _⟩
  | .slaE => ⟨_, rfl, keeps_rotR8 _ _ _⟩
  | .slaH => ⟨_, rfl, keeps_rotR8 _ _ _⟩
  | .slaL => ⟨_, rfl, keeps_rotR8 _ _ _⟩
  | .slaMhl => ⟨_, rfl, keeps_rotR8 _ _ _⟩
  | .slaA => ⟨_, rfl, keeps_rotR8 _ _ _⟩
  | .sraB => ⟨_, rfl, keeps_rotR8 _ _ _⟩
  | .sraC => ⟨_, rfl, keeps_rotR8 _ _ _⟩
  | .sraD => ⟨_, rfl, keeps_rotR8 _ _ _⟩
  | .sraE => ⟨_, rfl, keeps_rotR8 _ _ _⟩
  | .sraH => ⟨_, rfl, keeps_rotR8 _ _ _⟩
  | .sraL => ⟨_, rfl, keeps_rotR8 _ _ _⟩
  | .sraMhl => ⟨_, rfl, keeps_rotR8 _ _ _⟩
  | .sraA => ⟨_, rfl, keeps_rotR8 _ _ _⟩
  | .swapB => ⟨_, rfl, keeps_rotR8 _ _ _⟩
  | .swapC => ⟨_, rfl, keeps_rotR8 _ _ _⟩
  | .swapD => ⟨_, rfl, keeps_rotR8 _ _ _⟩
  | .swapE => ⟨_, rfl, keeps_rotR8 _ _ _⟩
  | .swapH => ⟨_, rfl, keeps_rotR8 _ _ _⟩
  | .swapL => ⟨_, rfl, keeps_rotR8 _ _ _⟩
  | .swapMhl => ⟨_, rfl, keeps_rotR8 _ _ _⟩
  | .swapA => ⟨_, rfl, keeps_rotR8 _ _ _⟩
  | .srlB => ⟨_, rfl, keeps_rotR8 _ _ _⟩
  | .srlC => ⟨_, rfl, keeps_rotR8 _ _ _⟩
  | .srlD => ⟨_, rfl, keeps_rotR8 _ _ _⟩
  | .srlE => ⟨_, rfl, keeps_rotR8 _ _ _⟩
  | .srlH => ⟨_, rfl, keeps_rotR8 _ _ _⟩
  | .srlL => ⟨_, rfl, keeps_rotR8 _ _ _⟩
  | .srlMhl => ⟨_, rfl, keeps_rotR8 _ _ _⟩
  | .srlA => ⟨_, rfl, keeps_rotR8 _ _ _⟩
  | .bit0B => ⟨_, rfl, keeps_bitR8 _ _ _⟩
  | .bit0C => ⟨_, rfl, keeps_bitR8 _ _ _⟩
  | .bit0D => ⟨_, rfl, keeps_bitR8 _ _ _⟩
  | .bit0E => ⟨_, rfl, keeps_bitR8 _ _ _⟩
  | .bit0H => ⟨_, rfl, keeps_bitR8 _ _ _⟩
  | .bit0L => ⟨_, rfl, keeps_bitR8 _ _ _⟩
  | .bit0Mhl => ⟨_, rfl, keeps_bitR8 _ _ _⟩
  | .bit0A => ⟨_, rfl, keeps_bitR8 _ _ _⟩
  | .bit1B => ⟨_, rfl, keeps_bitR8 _ _ _⟩
  | .bit1C => ⟨_, rfl, keeps_bitR8 _ _ _⟩
  | .bit1D => ⟨_, rfl, keeps_bitR8 _ _ _⟩
  | .bit1E => ⟨_, rfl, keeps_bitR8 _ _ _⟩
  | .bit1H => ⟨_, rfl, keeps_bitR8 _ _ _⟩
  | .bit1L => ⟨_, rfl, keeps_bitR8 _ _ _⟩
  | .bit1Mhl => ⟨_, rfl, keeps_bitR8 _ _ _⟩
  | .bit1A => ⟨_, rfl, keeps_bitR8 _ _ _⟩
  | .bit2B => ⟨_, rfl, keeps_bitR8 _ _ _⟩
  | .bit2C => ⟨_, rfl, keeps_bitR8 _ _ _⟩
  | .bit2D => ⟨_, rfl, keeps_bitR8 _ _ _⟩
  | .bit2E => ⟨_, rfl, keeps_bitR8 _ _ _⟩
  | .bit2H => ⟨_, rfl, keeps_bitR8 _ _ _⟩
  | .bit2L => ⟨_, rfl, keeps_bitR8 _ _ _⟩
  | .bit2Mhl => ⟨_, rfl, keeps_bitR8 _ _ _⟩
  | .bit2A => ⟨_, rfl, keeps_bitR8 _ _ _⟩
  | .bit3B => ⟨_, rfl, keeps_bitR8 _ _ _⟩
  | .bit3C => ⟨_, rfl, keeps_bitR8 _ _ _⟩
  | .bit3D => ⟨_, rfl, keeps_bitR8 _ _ _⟩
  | .bit3E => ⟨_, rfl, keeps_bitR8 _ _ _⟩
  | .bit3H => ⟨_, rfl, keeps_bitR8 _ _ _⟩
  | .bit3L => ⟨_, rfl, keeps_bitR8 _ _ _⟩
  | .bit3Mhl => ⟨_, rfl, keeps_bitR8 _ _ _⟩
  | .bit3A => ⟨_, rfl, keeps_bitR8 _ _ _⟩
  | .bit4B => ⟨_, rfl, keeps_bitR8 _ _ _⟩
  | .bit4C => ⟨_, rfl, keeps_bitR8 _ _ _⟩
  | .bit4D => ⟨_, rfl, keeps_bitR8 _ _ _⟩
  | .bit4E => ⟨_, rfl, keeps_bitR8 _ _ _⟩
  | .bit4H => ⟨_, rfl, keeps_bitR8 _ _ _⟩
  | .bit4L => ⟨_, rfl, keeps_bitR8 _ _ _⟩
  | .bit4Mhl => ⟨_, rfl, keeps_bitR8 _ _ _⟩
  | .bit4A => ⟨_, rfl, keeps_bitR8 _ _ _⟩
  | .bit5B => ⟨_, rfl, keeps_bitR8 _ _ _⟩
  | .bit5C => ⟨_, rfl, keeps_bitR8 _ _ _⟩
  | .bit5D => ⟨_, rfl, keeps_bitR8 _ _ _⟩
  | .bit5E => ⟨_, rfl, keeps_bitR8 _ _ _⟩
  | .bit5H => ⟨_, rfl, keeps_bitR8 _ _ _⟩
  | .bit5L => ⟨_, rfl, keeps_bitR8 _ _ _⟩
  | .bit5Mhl => ⟨_, rfl, keeps_bitR8 _ _ _⟩
  | .bit5A => ⟨_, rfl, keeps_bitR8 _ _ _⟩
  | .bit6B => ⟨_, rfl, keeps_bitR8 _ _ _⟩
  | .bit6C => ⟨_, rfl, keeps_bitR8 _ _ _⟩
  | .bit6D => ⟨_, rfl, keeps_bitR8 _ _ _⟩
  | .bit6E => ⟨_, rfl, keeps_bitR8 _ _ _⟩
  | .bit6H => ⟨_, rfl, keeps_bitR8 _ _ _⟩
  | .bit6L => ⟨_, rfl, keeps_bitR8 _ _ _⟩
  | .bit6Mhl => ⟨_, rfl, keeps_bitR8 _ _ _⟩
  | .bit6A => ⟨_, rfl, keeps_bitR8 _ _ _⟩
  | .bit7B => ⟨_, rfl, keeps_bitR8 _ _ _⟩
  | .bit7C => ⟨_, rfl, keeps_bitR8 _ _ _⟩
  | .bit7D => ⟨_, rfl, keeps_bitR8 _ _ _⟩
  | .bit7E => ⟨_, rfl, keeps_bitR8 _ _ _⟩
  | .bit7H => ⟨_, rfl, keeps_bitR8 _ _ _⟩
  | .bit7L => ⟨_, rfl, keeps_bitR8 _ _ _⟩
  | .bit7Mhl => ⟨_, rfl, keeps_bitR8 _ _ _⟩
  | .bit7A => ⟨_, rfl, keeps_bitR8 _ _ _⟩
  | .res0B => ⟨_, rfl, keeps_resR8 _ _ _⟩
  | .res0C => ⟨_, rfl, keeps_resR8 _ _ _⟩
  | .res0D => ⟨_, rfl, keeps_resR8 _ _ _⟩
  | .res0E => ⟨_, rfl, keeps_resR8 _ _ _⟩
  | .res0H => ⟨_, rfl, keeps_resR8 _ _ _⟩
  | .res0L => ⟨_, rfl, keeps_resR8 _ _ _⟩
  | .res0Mhl => ⟨_, rfl, keeps_resR8 _ _ _⟩
  | .res0A => ⟨_, rfl, keeps_resR8 _ _ _⟩
  | .res1B => ⟨_, rfl, keeps_resR8 _ _ _⟩
  | .res1C => ⟨_, rfl, keeps_resR8 _ _ _⟩
  | .res1D => ⟨_, rfl, keeps_resR8 _ _ _⟩
  | .res1E => ⟨_, rfl, keeps_resR8 _ _ _⟩
  | .res1H => ⟨_, rfl, keeps_resR8 _ _ _⟩
  | .res1L => ⟨_, rfl, keeps_resR8 _ _ _⟩
  | .res1Mhl => ⟨_, rfl, keeps_resR8 _ _ _⟩
  | .res1A => ⟨_, rfl, keeps_resR8 _ _ _⟩
  | .res2B => ⟨_, rfl, keeps_resR8 _ _ _⟩
  | .res2C => ⟨_, rfl, keeps_resR8 _ _ _⟩
  | .res2D => ⟨_, rfl, keeps_resR8 _ _ _⟩
  | .res2E => ⟨_, rfl, keeps_resR8 _ _ _⟩
  | .res2H => ⟨_, rfl, keeps_resR8 _ _ _⟩
  | .res2L => ⟨_, rfl, keeps_resR8 _ _ _⟩
  | .res2Mhl => ⟨_, rfl, keeps_resR8 _ _ _⟩
  | .res2A => ⟨_, rfl, keeps_resR8 _ _ _⟩
  | .res3B => ⟨_, rfl, keeps_resR8 _ _ _⟩
  | .res3C => ⟨_, rfl, keeps_resR8 _ _ _⟩
  | .res3D => ⟨_, rfl, keeps_resR8 _ _ _⟩
  | .res3E => ⟨_, rfl, keeps_resR8 _ _ _⟩
  | .res3H => ⟨_, rfl, keeps_resR8 _ _ _⟩
  | .res3L => ⟨_, rfl, keeps_resR8 _ _ _⟩
  | .res3Mhl => ⟨_, rfl, keeps_resR8 _ _ _⟩
  | .res3A => ⟨_, rfl, keeps_resR8 _ _ _⟩
  | .res4B => ⟨_, rfl, keeps_resR8 _ _ _⟩
  | .res4C => ⟨_, rfl, keeps_resR8 _ _ _⟩
  | .res4D => ⟨_, rfl, keeps_resR8 _ _ _⟩
  | .res4E => ⟨_, rfl, keeps_resR8 _ _ _⟩
  | .res4H => ⟨_, rfl, keeps_resR8 _ _ _⟩
  | .res4L => ⟨_, rfl, keeps_resR8 _ _ _⟩
  | .res4Mhl => ⟨_, rfl, keeps_resR8 _ _ _⟩
  | .res4A => ⟨_, rfl, keeps_resR8 _ _ _⟩
  | .res5B => ⟨_, rfl, keeps_resR8 _ _ _⟩
  | .res5C => ⟨_, rfl, keeps_resR8 _ _ _⟩
  | .res5D => ⟨_, rfl, keeps_resR8 _ _ _⟩
  | .res5E => ⟨_, rfl, keeps_resR8 _ _ _⟩
  | .res5H => ⟨_, rfl, keeps_resR8 _ _ _⟩
  | .res5L => ⟨_, rfl, keeps_resR8 _ _ _⟩
  | .res5Mhl => ⟨_, rfl, keeps_resR8 _ _ _⟩
  | .res5A => ⟨_, rfl, keeps_resR8 _ _ _⟩
  | .res6B => ⟨_, rfl, keeps_resR8 _ _ _⟩
  | .res6C => ⟨_, rfl, keeps_resR8 _ _ _⟩
  | .res6D => ⟨_, rfl, keeps_resR8 _ _ _⟩
  | .res6E => ⟨_, rfl, keeps_resR8 _ _ _⟩
  | .res6H => ⟨_, rfl, keeps_resR8 _ _ _⟩
  | .res6L => ⟨_, rfl, keeps_resR8 _ _ _⟩
  | .res6Mhl => ⟨_, rfl, keeps_resR8 _ _ _⟩
  | .res6A => ⟨_, rfl, keeps_resR8 _ _ _⟩
  | .res7B => ⟨_, rfl, keeps_resR8 _ _ _⟩
  | .res7C => ⟨_, rfl, keeps_resR8 _ _ _⟩
  | .res7D => ⟨_, rfl, keeps_resR8 _ _ _⟩
  | .res7E => ⟨_, rfl, keeps_resR8 _ _ _⟩
  | .res7H => ⟨_, rfl, keeps_resR8 _ _ _⟩
  | .res7L => ⟨_, rfl, keeps_resR8 _ _ _⟩
  | .res7Mhl => ⟨_, rfl, keeps_resR8 _ _ _⟩
  | .res7A => ⟨_, rfl, keeps_resR8 _ _ _⟩
  | .set0B => ⟨_, rfl, keeps_setR8 _ _ _⟩
  | .set0C => ⟨_, rfl, keeps_setR8 _ _ _⟩
  | .set0D => ⟨_, rfl, keeps_setR8 _ _ _⟩
  | .set0E => ⟨_, rfl, keeps_setR8 _ _ _⟩
  | .set0H => ⟨_, rfl, keeps_setR8 _ _ _⟩
  | .set0L => ⟨_, rfl, keeps_setR8 _ _ _⟩
  | .set0Mhl => ⟨_, rfl, keeps_setR8 _ _ _⟩
  | .set0A => ⟨_, rfl, keeps_setR8 _ _ _⟩
  | .set1B => ⟨_, rfl, keeps_setR8 _ _ _⟩
  | .set1C => ⟨_, rfl, keeps_setR8 _ _ _⟩
  | .set1D => ⟨_, rfl, keeps_setR8 _ _ _⟩
  | .set1E => ⟨_, rfl, keeps_setR8 _ _ _⟩
  | .set1H => ⟨_, rfl, keeps_setR8 _ _ _⟩
  | .set1L => ⟨_, rfl, keeps_setR8 _ _ _⟩
  | .set1Mhl => ⟨_, rfl, keeps_setR8 _ _ _⟩
  | .set1A => ⟨_, rfl, keeps_setR8 _ _ _⟩
  | .set2B => ⟨_, rfl, keeps_setR8 _ _ _⟩
  | .set2C => ⟨_, rfl, keeps_setR8 _ _ _⟩
  | .set2D => ⟨_, rfl, keeps_setR8 _ _ _⟩
  | .set2E => ⟨_, rfl, keeps_setR8 _ _ _⟩
  | .set2H => ⟨_, rfl, keeps_setR8 _ _ _⟩
  | .set2L => ⟨_, rfl, keeps_setR8 _ _ _⟩
  | .set2Mhl => ⟨_, rfl, keeps_setR8 _ _ _⟩
  | .set2A => ⟨_, rfl, keeps_setR8 _ _ _⟩
  | .set3B => ⟨_, rfl, keeps_setR8 _ _ _⟩
  | .set3C => ⟨_, rfl, keeps_setR8 _ _ _⟩
  | .set3D => ⟨_, rfl, keeps_setR8 _ _ _⟩
  | .set3E => ⟨_, rfl, keeps_setR8 _ _ _⟩
  | .set3H => ⟨_, rfl, keeps_setR8 _ _ _⟩
  | .set3L => ⟨_, rfl, keeps_setR8 _ _ _⟩
  | .set3Mhl => ⟨_, rfl, keeps_setR8 _ _ _⟩
  | .set3A => ⟨_, rfl, keeps_setR8 _ _ _⟩
  | .set4B => ⟨_, rfl, keeps_setR8 _ _ _⟩
  | .set4C => ⟨_, rfl, keeps_setR8 _ _ _⟩
  | .set4D => ⟨_, rfl, keeps_setR8 _ _ _⟩
  | .set4E => ⟨_, rfl, keeps_setR8 _ _ _⟩
  | .set4H => ⟨_, rfl, keeps_setR8 _ _ _⟩
  | .set4L => ⟨_, rfl, keeps_setR8 _ _ _⟩
  | .set4Mhl => ⟨_, rfl, keeps_setR8 _ _ _⟩
  | .set4A => ⟨_, rfl, keeps_setR8 _ _ _⟩
  | .set5B => ⟨_, rfl, keeps_setR8 _ _ _⟩
  | .set5C => ⟨_, rfl, keeps_setR8 _ _ _⟩
  | .set5D => ⟨_, rfl, keeps_setR8 _ _ _⟩
  | .set5E => ⟨_, rfl, keeps_setR8 _ _ _⟩
  | .set5H => ⟨_, rfl, keeps_setR8 _ _ _⟩
  | .set5L => ⟨_, rfl, keeps_setR8 _ _ _⟩
  | .set5Mhl => ⟨_, rfl, keeps_setR8 _ _ _⟩
  | .set5A => ⟨_, rfl, keeps_setR8 _ _ _⟩
  | .set6B => ⟨_, rfl, keeps_setR8 _ _ _⟩
  | .set6C => ⟨_, rfl, keeps_setR8 _ _ _⟩
  | .set6D => ⟨_, rfl, keeps_setR8 _ _ _⟩
  | .set6E => ⟨_, rfl, keeps_setR8 _ _ _⟩
  | .set6H => ⟨_, rfl, keeps_setR8 _ _ _⟩
  | .set6L => ⟨_, rfl, keeps_setR8 _ _ _⟩
  | .set6Mhl => ⟨_, rfl, keeps_setR8 _ _ _⟩
  | .set6A => ⟨_, rfl, keeps_setR8 _ _ _⟩
  | .set7B => ⟨_, rfl, keeps_setR8 _ _ _⟩
  | .set7C => ⟨_, rfl, keeps_setR8 _ _ _⟩
  | .set7D => ⟨_, rfl, keeps_setR8 _ _ _⟩
  | .set7E => ⟨_, rfl, keeps_setR8 _ _ _⟩
  | .set7H => ⟨_, rfl, keeps_setR8 _ _ _⟩
  | .set7L => ⟨_, rfl, keeps_setR8 _ _ _⟩
  | .set7Mhl => ⟨_, rfl, keeps_setR8 _ _ _⟩
  | .set7A => ⟨_, rfl, keeps_setR8 _ _ _⟩

/-- Whatever an instruction answers is a next state that keeps what `Keeps` says. -/
theorem exec_keeps {i : Instr} {s t : State} (h : exec i s = .next t) : Keeps s t := by
  obtain ⟨u, hu, hk⟩ := exec_next_keeps i s
  rw [hu] at h
  cases h
  exact hk

theorem exec_ne_fault (i : Instr) (s : State) (r : Fault) : exec i s ≠ .fault r := by
  obtain ⟨u, hu, -⟩ := exec_next_keeps i s
  rw [hu]; simp

theorem exec_ne_refused (i : Instr) (s : State) (r : Refusal) : exec i s ≠ .refused r := by
  obtain ⟨u, hu, -⟩ := exec_next_keeps i s
  rw [hu]; simp

end Sys2Proof.Machine
end

