-- ==== Sys2Proof/Laws/Sched.lean ====
section
/-! SUPPORT. The scheduler: the sorted queue, the host ports, one fired event, and the polling loop
(60_exceptions.md R820 to R826). -/

namespace Sys2Proof.Machine

/-! The sorted queue -/

theorem insertEvent_length (e : SchedEvent) (q : List SchedEvent) : (insertEvent e q).length = q.length + 1 := by
  induction q with
  | nil => rfl
  | cons x xs ih =>
    unfold insertEvent
    split
    · rfl
    · simp [ih]

/-- Inserting adds the event and nothing else. -/
theorem insertEvent_perm (e : SchedEvent) (q : List SchedEvent) : (insertEvent e q).Perm (e :: q) := by
  induction q with
  | nil => exact List.Perm.refl _
  | cons x xs ih =>
    unfold insertEvent
    split
    · exact List.Perm.refl _
    · exact (ih.cons x).trans (List.Perm.swap e x xs)

theorem insertEvent_sorted (e : SchedEvent) (q : List SchedEvent)
    (h : q.Pairwise (fun x y => x.trigger ≤ y.trigger)) :
    (insertEvent e q).Pairwise (fun x y => x.trigger ≤ y.trigger) := by
  induction q with
  | nil => simp [insertEvent]
  | cons x xs ih =>
    rw [List.pairwise_cons] at h
    unfold insertEvent
    split
    · rename_i hle
      have hex : e.trigger ≤ x.trigger := by
        simp only [eventLe, Bool.or_eq_true, Bool.and_eq_true, decide_eq_true_eq, beq_iff_eq] at hle
        omega
      rw [List.pairwise_cons]
      refine ⟨fun y hy => ?_, List.pairwise_cons.mpr h⟩
      rcases List.mem_cons.mp hy with rfl | hy
      · exact hex
      · exact hex.trans (h.1 y hy)
    · rename_i hle
      have hxe : x.trigger ≤ e.trigger := by
        simp only [eventLe, Bool.or_eq_true, Bool.and_eq_true, decide_eq_true_eq, beq_iff_eq] at hle
        omega
      rw [List.pairwise_cons]
      refine ⟨fun y hy => ?_, ih h.2⟩
      rcases List.mem_cons.mp ((insertEvent_perm e xs).mem_iff.mp hy) with rfl | hy
      · exact hxe
      · exact h.1 y hy

theorem insertAddr_mem (a x : Nat) (l : List Nat) : x ∈ insertAddr a l ↔ x = a ∨ x ∈ l := by
  induction l with
  | nil => simp [insertAddr]
  | cons b bs ih =>
    unfold insertAddr
    split
    · simp
    · split
      · rename_i h; subst h; simp
      · simp only [List.mem_cons, ih]; tauto

theorem insertAddr_sorted (a : Nat) (l : List Nat) (h : l.Pairwise (· < ·)) : (insertAddr a l).Pairwise (· < ·) := by
  induction l with
  | nil => simp [insertAddr]
  | cons b bs ih =>
    rw [List.pairwise_cons] at h
    unfold insertAddr
    split
    · rename_i hab
      rw [List.pairwise_cons]
      refine ⟨fun y hy => ?_, List.pairwise_cons.mpr h⟩
      rcases List.mem_cons.mp hy with rfl | hy
      · exact hab
      · exact hab.trans (h.1 y hy)
    · split
      · exact List.pairwise_cons.mpr h
      · rw [List.pairwise_cons]
        refine ⟨fun y hy => ?_, ih h.2⟩
        rcases (insertAddr_mem a y bs).mp hy with rfl | hy
        · omega
        · exact h.1 y hy

/-- A breakpoint map has exactly the bit of `a` changed. -/
theorem setBp_mem (a : Word) (e : Bool) (l : List Nat) (x : Nat) :
    x ∈ setBp a e l ↔ (x = a.toNat ∧ e = true) ∨ (x ≠ a.toNat ∧ x ∈ l) := by
  cases e
  · simp [setBp, and_comm]
  · simp only [setBp, if_true, insertAddr_mem]
    by_cases h : x = a.toNat <;> simp [h]

theorem setBp_sorted (a : Word) (e : Bool) (l : List Nat) (h : l.Pairwise (· < ·)) : (setBp a e l).Pairwise (· < ·) := by
  cases e
  · exact h.filter _
  · exact insertAddr_sorted _ _ h

/-! What a port call of a callback leaves alone -/

/-- What the scheduler and the callbacks keep: all but the queue, the callbacks, the selectors, the breakpoint maps
and the output channel. -/
structure PortKeeps (s t : State) : Prop where
  cpu : t.cpu = s.cpu
  status : t.status = s.status
  cfg : t.cfg = s.cfg
  now : t.sched.now = s.sched.now
  cells : t.mem.cells = s.mem.cells
  romBanks : t.mem.romBanks = s.mem.romBanks
  bootBound : t.mem.bootBound = s.mem.bootBound
  unbind : unbindSum t = unbindSum s
  inv : Inv s → Inv t

theorem PortKeeps.refl (s : State) : PortKeeps s s := ⟨rfl, rfl, rfl, rfl, rfl, rfl, rfl, rfl, id⟩

theorem PortKeeps.trans {s t u : State} (h : PortKeeps s t) (g : PortKeeps t u) : PortKeeps s u :=
  ⟨g.cpu.trans h.cpu, g.status.trans h.status, g.cfg.trans h.cfg, g.now.trans h.now, g.cells.trans h.cells,
    g.romBanks.trans h.romBanks, g.bootBound.trans h.bootBound, g.unbind.trans h.unbind, fun i => g.inv (h.inv i)⟩

theorem portKeeps_addEvent (delay id : Nat) (s : State) : PortKeeps s (addEvent delay id s) :=
  ⟨rfl, rfl, rfl, rfl, rfl, rfl, rfl, rfl, fun i => { i with queue := insertEvent_sorted _ _ i.queue }⟩

theorem portKeeps_setBank (region : BankRegion) (k : Nat) (s : State) : PortKeeps s (setBank region k s) := by
  cases region <;> unfold setBank <;> simp only <;> split
  all_goals first
    | exact PortKeeps.refl s
    | exact ⟨rfl, rfl, rfl, rfl, rfl, rfl, rfl, rfl, fun i => { i with romBank := ‹_› }⟩
    | exact ⟨rfl, rfl, rfl, rfl, rfl, rfl, rfl, rfl, fun i => { i with eramBank := ‹_› }⟩
    | exact ⟨rfl, rfl, rfl, rfl, rfl, rfl, rfl, rfl, fun i => { i with wramBank := ‹_› }⟩

theorem portKeeps_applyCall (c : HostCall) (s : State) : PortKeeps s (applyCall c s) := by
  cases c with
  | addEvent delay id => exact portKeeps_addEvent delay id s
  | setBank region k => exact portKeeps_setBank region k s
  | setReadBp a e => exact ⟨rfl, rfl, rfl, rfl, rfl, rfl, rfl, rfl, fun i => { i with rdBp := setBp_sorted _ _ _ i.rdBp }⟩
  | setWriteBp a e => exact ⟨rfl, rfl, rfl, rfl, rfl, rfl, rfl, rfl, fun i => { i with wrBp := setBp_sorted _ _ _ i.wrBp }⟩
  | setCodeBp a e => exact ⟨rfl, rfl, rfl, rfl, rfl, rfl, rfl, rfl, fun i => { i with codeBp := setBp_sorted _ _ _ i.codeBp }⟩

theorem portKeeps_applyCalls (cs : List HostCall) (s : State) : PortKeeps s (applyCalls cs s) := by
  induction cs generalizing s with
  | nil => exact PortKeeps.refl s
  | cons c rest ih => exact (portKeeps_applyCall c s).trans (ih _)

theorem portKeeps_runCallback (on : OnEvent) (id : Nat) (s : State) : PortKeeps s (runCallback on id s) :=
  PortKeeps.trans (t := setCallbacks (s.callbacks + 1) s)
    ⟨rfl, rfl, rfl, rfl, rfl, rfl, rfl, rfl, fun i => { i with }⟩ (portKeeps_applyCalls _ _)

theorem portKeeps_fireEvent (e : SchedEvent) (i : Nat) (s : State) : PortKeeps s (fireEvent e i s) :=
  ⟨rfl, rfl, rfl, rfl, rfl, rfl, rfl, by simp [unbindSum, fireEvent, emit],
    fun h => { h with queue := h.queue.sublist (List.eraseIdx_sublist _ _) }⟩

/-- `process_events` keeps a status other than Ok, whatever the queue holds (R805). -/
theorem processEvents_status (on : OnEvent) (s : State) (h : s.status ≠ .ok) : (processEvents on s).status = s.status := by
  unfold processEvents
  split
  · simp [raiseUnderflow_eq, h]
  · exact ((portKeeps_fireEvent _ _ s).trans (portKeeps_runCallback on _ _)).status

/-- One fired event of a queue that is not empty. -/
theorem portKeeps_processEvents (on : OnEvent) (s : State) (h : s.sched.queue ≠ []) : PortKeeps s (processEvents on s) := by
  unfold processEvents
  split
  · rename_i hq; exact absurd hq h
  · exact (portKeeps_fireEvent _ _ s).trans (portKeeps_runCallback on _ _)

/-! The polling loop -/

/-- Every event among the first `tieCount` of a queue has the trigger of its head. -/
theorem tie_trigger (e : SchedEvent) (rest : List SchedEvent) (i : Nat) (h : i < tieCount (e :: rest)) :
    ((e :: rest).getD i e).trigger = e.trigger := by
  induction rest generalizing i with
  | nil =>
    simp only [tieCount, List.takeWhile_nil, List.length_nil] at h
    have : i = 0 := by omega
    subst this; rfl
  | cons x xs ih =>
    cases i with
    | zero => rfl
    | succ j =>
      simp only [tieCount, List.takeWhile_cons] at h
      split at h
      · rename_i hx
        cases j with
        | zero => simpa using hx
        | succ j =>
          have := ih (j + 1) (by simp only [tieCount]; simp only [List.length_cons] at h; omega)
          simpa using this
      · simp only [List.length_nil] at h; omega

theorem isEventPending_ne_nil (s : State) (h : isEventPending s = true) : s.sched.queue ≠ [] := by
  intro hq
  simp [isEventPending, hq] at h

/-- A loop that has ended stays as it is, whatever turns are left. -/
theorem pollLoop_stable (on : OnEvent) (n m : Nat) (s : State) (h : isEventPending (pollLoop on n s) = false) :
    pollLoop on (n + m) s = pollLoop on n s := by
  induction n generalizing s with
  | zero =>
    have hs : isEventPending s = false := h
    cases m with
    | zero => rfl
    | succ m => simp [pollLoop, hs]
  | succ n ih =>
    rw [Nat.succ_add]
    unfold pollLoop at h ⊢
    split
    · rename_i hp; rw [if_pos hp] at h; exact ih _ h
    · rfl

/-- Two numbers of turns that both end the loop end it in the same state. -/
theorem pollLoop_unique (on : OnEvent) (n m : Nat) (s : State) (hn : isEventPending (pollLoop on n s) = false)
    (hm : isEventPending (pollLoop on m s) = false) : pollLoop on n s = pollLoop on m s := by
  rw [← pollLoop_stable on n m s hn, ← pollLoop_stable on m n s hm, Nat.add_comm]

/-- The polling of R824 is its loop, run for as many turns as the host says. -/
theorem pollWith_eq_pollLoop (h : PollingHost) (s : State) : pollWith h s = pollLoop h.onEvent (h.turns s) s := by
  unfold pollWith
  split
  · rfl
  · rename_i hp
    cases h.turns s with
    | zero => rfl
    | succ n => simp [pollLoop, hp]

/-- After the engine's polling no event is due (R824). -/
theorem poll_done (s : State) : isEventPending (poll s) = false := by
  unfold poll
  rw [pollWith_eq_pollLoop]
  exact host.ends s

theorem portKeeps_pollLoop (on : OnEvent) (fuel : Nat) (s : State) : PortKeeps s (pollLoop on fuel s) := by
  induction fuel generalizing s with
  | zero => exact PortKeeps.refl s
  | succ n ih =>
    unfold pollLoop
    split
    · rename_i hp; exact (portKeeps_processEvents on s (isEventPending_ne_nil s hp)).trans (ih _)
    · exact PortKeeps.refl s

/-- What the polling keeps. -/
theorem portKeeps_poll (s : State) : PortKeeps s (poll s) := by
  unfold poll
  rw [pollWith_eq_pollLoop]
  exact portKeeps_pollLoop _ _ s

/-- With an empty queue the polling does nothing. -/
theorem poll_nil (s : State) (h : s.sched.queue = []) : poll s = s := by
  simp [poll, pollWith, isEventPending, h]

/-! Hosts that add no event due at once: each turn leaves one due event fewer -/

/-- How many queued events are due. -/
def dueCount (s : State) : Nat := s.sched.queue.countP (fun e => decide (e.trigger ≤ s.sched.now))

/-- A list of port calls none of which adds an event due at once. -/
def laterOnly (cs : List HostCall) : Prop := ∀ d id, HostCall.addEvent d id ∈ cs → 0 < d

theorem isEventPending_of_dueCount (s : State) (h : dueCount s = 0) : isEventPending s = false := by
  unfold dueCount at h
  unfold isEventPending
  split
  · rfl
  · rename_i e rest hq
    rw [hq, List.countP_eq_zero] at h
    simpa using h e (List.mem_cons_self ..)

theorem dueCount_applyCall (c : HostCall) (s : State) (h : ∀ d id, c = .addEvent d id → 0 < d) :
    dueCount (applyCall c s) = dueCount s := by
  cases c with
  | addEvent d id =>
    have hd := h d id rfl
    show List.countP (fun e => decide (e.trigger ≤ s.sched.now)) (insertEvent ⟨s.sched.now + d, id⟩ s.sched.queue) = _
    rw [(insertEvent_perm _ _).countP_eq, List.countP_cons_of_neg (by simp; omega)]
    rfl
  | setBank region k => cases region <;> simp only [applyCall, setBank] <;> split <;> rfl
  | setReadBp a e => rfl
  | setWriteBp a e => rfl
  | setCodeBp a e => rfl

theorem dueCount_applyCalls (cs : List HostCall) (s : State) (h : laterOnly cs) :
    dueCount (applyCalls cs s) = dueCount s := by
  induction cs generalizing s with
  | nil => rfl
  | cons c rest ih =>
    exact (ih _ (fun d id hm => h d id (List.mem_cons_of_mem _ hm))).trans
      (dueCount_applyCall c s (fun d id hc => h d id (hc ▸ List.mem_cons_self ..)))

/-- Erasing an element that satisfies `p` takes one from the count. -/
theorem countP_eraseIdx_of_pos {α : Type} (p : α → Bool) (l : List α) (i : Nat) (x : α) (hi : l[i]? = some x)
    (hx : p x = true) : (l.eraseIdx i).countP p + 1 = l.countP p := by
  induction l generalizing i with
  | nil => simp at hi
  | cons y ys ih =>
    cases i with
    | zero =>
      have : y = x := by simpa using hi
      simp [this, hx]
    | succ i =>
      have := ih i (by simpa using hi)
      simp only [List.eraseIdx_cons_succ, List.countP_cons]
      omega

/-- Firing a due event under such a host leaves one due event fewer. -/
theorem dueCount_processEvents (on : OnEvent) (hon : ∀ s id, laterOnly (on s id)) (s : State)
    (h : isEventPending s = true) : dueCount (processEvents on s) + 1 = dueCount s := by
  unfold isEventPending at h
  unfold processEvents
  split
  · rename_i hq; simp [hq] at h
  · rename_i e rest hq
    simp only
    have hi := tieIndex_lt s.ties _ (tieCount_pos e rest)
    have hl := tieIndex_lt_length s.ties e rest
    generalize tieIndex s.ties (tieCount (e :: rest)) = i at hi hl
    have ht := tie_trigger e rest i hi
    have hx : (e :: rest)[i]? = some ((e :: rest).getD i e) := by
      rw [List.getD_eq_getElem?_getD, List.getElem?_eq_getElem hl, Option.getD_some]
    generalize (e :: rest).getD i e = x at ht hx
    unfold runCallback
    rw [dueCount_applyCalls _ _ (hon _ _)]
    show (s.sched.queue.eraseIdx i).countP (fun e => decide (e.trigger ≤ s.sched.now)) + 1 = _
    simp only [hq, decide_eq_true_eq] at h
    exact countP_eraseIdx_of_pos _ _ i x (hq ▸ hx) (by simpa [ht] using h)

end Sys2Proof.Machine
end

