-- ==== Sys2Proof/Laws/Engine.lean ====
section
/-! SUPPORT. The engine around `exec`: fetch, hooks, and one step, said once (30_encoding.md R320, R323, R324). -/

namespace Sys2Proof.Machine

/-! Fetch -/

@[simp] theorem fetchByte_fst (s : State) : (fetchByte s).1 = peek s.cpu.pc (unbindIfDue s) := rfl
@[simp] theorem fetchByte_snd_pc (s : State) : (fetchByte s).2.cpu.pc = s.cpu.pc + 1 := by simp [fetchByte]
@[simp] theorem fetchByte_snd_status (s : State) : (fetchByte s).2.status = s.status := by simp [fetchByte]

theorem fetchInstr_keeps (s : State) : Keeps s (fetchInstr s).state := by
  unfold fetchInstr
  simp only
  split
  · exact keeps_fetchByte s
  · exact (keeps_fetchByte s).trans (keeps_fetchByte _)
  · exact ((keeps_fetchByte s).trans (keeps_fetchByte _)).trans (keeps_fetchByte _)
  · exact (keeps_fetchByte s).trans (keeps_fetchByte _)

theorem fetchInstr_status (s : State) : (fetchInstr s).state.status = s.status := by
  unfold fetchInstr
  simp only
  split <;> simp

/-! Hooks -/

theorem keeps_controlHook (a0 : Word) (i : Instr) (s : State) : Keeps s (controlHook a0 i s) := by
  unfold controlHook
  split
  · exact Keeps.refl s
  · exact keeps_emit _ s (by simp)
  · exact keeps_emitIf _ _ s (by simp)
  · exact keeps_emit _ s (by simp)
  · exact keeps_emitIf _ _ s (by simp)

theorem keeps_stepHooks (a0 : Word) (f : Fetched) (s : State) : Keeps s (stepHooks a0 f s) :=
  ((keeps_controlHook a0 f.instr s).trans (keeps_emit _ _ (by simp))).trans (keeps_emitIf _ _ _ (by simp))

/-- The hooks only append to the output channel (R323). -/
theorem stepHooks_eq (a0 : Word) (f : Fetched) (s : State) :
    stepHooks a0 f s = { s with out := (stepHooks a0 f s).out } := by
  unfold stepHooks controlHook
  cases hookKind f.instr <;> simp only [emitIf_eq, emit]

/-! One step -/

/-- A step answers a next state exactly when the engine is running, and then it is the engine's (R324). -/
theorem step_eq_next_iff (s t : State) : step s = .next t ↔ Running s ∧ runInstr s = .next t := by
  unfold step Running
  cases s.status with
  | ok =>
    cases s.cpu.halted <;> cases s.cpu.stopped <;> simp
  | faulted f => simp
  | refused op => simp

/-- Everything a step can do: the fetch, the meaning, and the end of the step (R320). -/
theorem step_cases {s t : State} (h : step s = .next t) :
    Running s ∧ ∃ u, exec (fetchInstr (setTaken false s)).instr (fetchInstr (setTaken false s)).state = .next u ∧
      t = complete s.cpu.pc (fetchInstr (setTaken false s)) u := by
  obtain ⟨hr, h⟩ := (step_eq_next_iff s t).mp h
  obtain ⟨u, hu, -⟩ := exec_next_keeps (fetchInstr (setTaken false s)).instr (fetchInstr (setTaken false s)).state
  refine ⟨hr, u, hu, ?_⟩
  unfold runInstr at h
  simp only [hu] at h
  cases h
  rfl

/-- Fetch and meaning together keep what `Keeps` says. -/
theorem keeps_fetch_exec {s u : State}
    (h : exec (fetchInstr (setTaken false s)).instr (fetchInstr (setTaken false s)).state = .next u) : Keeps s u :=
  ((keeps_setTaken false s).trans (fetchInstr_keeps _)).trans (exec_keeps h)

/-- `Keeps` carries the invariant. -/
theorem Keeps.inv {s t : State} (h : Keeps s t) (i : Inv s) : Inv t where
  cells := h.wf i.cells
  romBanks := h.romBanks ▸ i.romBanks
  romBank := by rw [h.romBank, h.romBanks]; exact i.romBank
  eramBank := by rw [h.eramBank, h.cfg]; exact i.eramBank
  wramBank := by rw [h.wramBank, h.cfg]; exact i.wramBank
  queue := by rw [h.sched]; exact i.queue
  rdBp := by rw [h.dbg]; exact i.rdBp
  wrBp := by rw [h.dbg]; exact i.wrBp
  codeBp := by rw [h.dbg]; exact i.codeBp
  halted := h.halted.trans i.halted
  stopped := h.stopped.trans i.stopped

theorem portKeeps_tickSystem_inv (n : Nat) (s : State) (i : Inv s) : Inv (tickSystem n s) := { i with }

end Sys2Proof.Machine
end

