-- ==== Sys2Proof/Laws/Frame.lean ====
section
/-! SUPPORT. What each shared operation leaves alone: in the register file (`CpuFrame`) and in memory (`MemFrame`). -/

namespace Sys2Proof.Machine

/-- Registers outside `regs` are kept, SP is kept unless `sp`, and each flag obeys its rule. -/
structure CpuFrame (regs : List Reg8) (sp : Bool) (fc : FlagColumn) (s t : State) : Prop where
  regs : ∀ r, r ∉ regs → reg r t = reg r s
  sp : sp = false → t.cpu.sp = s.cpu.sp
  z : fc.z.allows (getFlag .z s) (getFlag .z t)
  n : fc.n.allows (getFlag .n s) (getFlag .n t)
  h : fc.h.allows (getFlag .h s) (getFlag .h t)
  c : fc.c.allows (getFlag .c s) (getFlag .c t)

/-- Stored bytes that back no address of `st` are kept, the selectors are kept, and the overlay stays or is removed by
a read with PC = 0x0100. -/
structure MemFrame (st : List Word) (s t : State) : Prop where
  cells : ∀ k, (∀ a ∈ st, 0x8000 ≤ a.toNat → backing s.mem a ≠ some k) → cellsGet t.mem.cells k = cellsGet s.mem.cells k
  rest : t.mem = { s.mem with cells := t.mem.cells, bootBound := t.mem.bootBound }
  boot : t.mem.bootBound = s.mem.bootBound ∨ (s.mem.bootBound = true ∧ s.cpu.pc = 0x0100 ∧ t.mem.bootBound = false)

/-! Memory -/

theorem memFrame_of_mem (st : List Word) {s t : State} (h : t.mem = s.mem) : MemFrame st s t :=
  ⟨fun _ _ => by rw [h], by rw [h], .inl (by rw [h])⟩

theorem MemFrame.mono {st st' : List Word} {s t : State} (h : MemFrame st s t) (hs : st ⊆ st') : MemFrame st' s t :=
  ⟨fun k hk => h.cells k (fun a ha => hk a (hs ha)), h.rest, h.boot⟩

/-- The backing of an address above the overlay's window is the same on both sides of a frame. -/
theorem MemFrame.backing {st : List Word} {s t : State} (h : MemFrame st s t) (a : Word) (ha : 0x0100 ≤ a.toNat) :
    backing t.mem a = backing s.mem a := by
  have e : Machine.backing t.mem a = Machine.backing { s.mem with bootBound := t.mem.bootBound } a := by
    rw [h.rest]; rfl
  rw [e, backing_bootBound _ _ _ ha]

theorem MemFrame.trans {st st' : List Word} {s t u : State} (h : MemFrame st s t) (g : MemFrame st' t u)
    (hp : t.cpu.pc = s.cpu.pc) : MemFrame (st ++ st') s u where
  cells := fun k hk => by
    rw [g.cells k fun a ha h8 => ?_, h.cells k fun a ha => hk a (List.mem_append_left _ ha)]
    rw [h.backing a (by omega)]
    exact hk a (List.mem_append_right _ ha) h8
  rest := by rw [g.rest, h.rest]
  boot := by
    obtain h1 | ⟨h1, h2, h3⟩ := h.boot <;> obtain g1 | ⟨g1, g2, g3⟩ := g.boot
    · exact .inl (g1.trans h1)
    · exact .inr ⟨h1 ▸ g1, hp ▸ g2, g3⟩
    · exact .inr ⟨h1, h2, g1.trans h3⟩
    · rw [h3] at g1; cases g1

/-- An update of the cpu after a frame keeps it. -/
theorem MemFrame.then {st : List Word} {s t u : State} (h : MemFrame st s t) (hm : u.mem = t.mem) : MemFrame st s u :=
  ⟨fun k hk => by rw [hm]; exact h.cells k hk, by rw [hm]; exact h.rest, by rw [hm]; exact h.boot⟩

theorem memFrame_readEffect (a : Word) (s : State) : MemFrame [] s (readEffect a s) := by
  refine MemFrame.then (t := unbindIfDue s) ?_ (readEffect_mem a s)
  refine ⟨fun k _ => by rw [unbindIfDue_cells], by rw [unbindIfDue_mem], ?_⟩
  obtain ⟨hb, hp, h⟩ | ⟨-, h⟩ := unbindIfDue_cases s
  · exact .inr ⟨hb, hp, by rw [h]; rfl⟩
  · exact .inl (by rw [h])

theorem memFrame_memWrite (a : Word) (v : Byte) (s : State) : MemFrame [a] s (memWrite a v s) where
  cells := fun k hk => by
    rw [memWrite_mem]
    split
    · rfl
    · exact cellsGet_busStore_ne s.mem a v k (hk a (by simp) (by omega))
  rest := by
    rw [memWrite_mem]
    split
    · rfl
    · unfold busStore; split <;> rfl
  boot := .inl (memWrite_selectors a v s).2.2.2.2.2

/-- The addresses a write of `r` stores to. -/
def r8Stores (r : R8) (s : State) : List Word :=
  match r with
  | .reg _ => []
  | .mhl => [pair .hl s]

theorem memFrame_readR8 (r : R8) (s : State) : MemFrame [] s (readR8 r s).2 := by
  cases r
  · exact memFrame_of_mem _ rfl
  · exact memFrame_readEffect _ s

/-- A read then a write of the same operand. -/
theorem memFrame_updateR8 (r : R8) (v : Byte) (s : State) : MemFrame (r8Stores r s) s (writeR8 r v (readR8 r s).2) := by
  cases r with
  | reg x => exact memFrame_of_mem _ (by cases x <;> rfl)
  | mhl =>
    have h := (memFrame_readEffect (pair .hl s) s).trans (memFrame_memWrite (pair .hl (readEffect (pair .hl s) s)) v _)
      (by simp)
    rw [pair_readEffect] at h
    unfold r8Stores writeR8 readR8
    simp only [memRead_snd, pair_readEffect]
    exact h

theorem memFrame_write16 (a v : Word) (s : State) : MemFrame [a, a + 1] s (write16 a v s) :=
  (memFrame_memWrite a _ s).trans (memFrame_memWrite (a + 1) _ _) (by simp)

theorem memFrame_push16 (v : Word) (s : State) : MemFrame [s.cpu.sp - 1, s.cpu.sp - 2] s (push16 v s) := by
  have e : s.cpu.sp - 1 - 1 = s.cpu.sp - 2 := by rw [BitVec.sub_sub]; rfl
  have h1 := memFrame_memWrite (s.cpu.sp - 1) (hiByte v) (setSp (s.cpu.sp - 1) s)
  have h2 := memFrame_memWrite (s.cpu.sp - 2) (loByte v)
    (setSp (s.cpu.sp - 2) (memWrite (s.cpu.sp - 1) (hiByte v) (setSp (s.cpu.sp - 1) s)))
  have h3 : MemFrame [s.cpu.sp - 2] (memWrite (s.cpu.sp - 1) (hiByte v) (setSp (s.cpu.sp - 1) s)) _ :=
    ⟨h2.cells, h2.rest, h2.boot⟩
  have h := h1.trans h3 (by simp [setSp])
  unfold push16
  simp only [setSp_cpu_sp, memWrite_cpu, e]
  exact ⟨h.cells, h.rest, h.boot⟩

theorem memFrame_pop16 (s : State) : MemFrame [] s (pop16 s).2 := by
  have h := ((memFrame_readEffect s.cpu.sp s).trans
    (memFrame_of_mem [] (t := setSp (s.cpu.sp + 1) (readEffect s.cpu.sp s)) rfl) (by simp)).trans
    (memFrame_readEffect (s.cpu.sp + 1) _) (by simp [setSp])
  refine MemFrame.then h ?_
  simp [pop16, setSp]

/-! Registers and flags -/

theorem cpuFrame_of_cpu (regs : List Reg8) (sp : Bool) {s t : State} (h : t.cpu = s.cpu) :
    CpuFrame regs sp ⟨.kept, .kept, .kept, .kept⟩ s t :=
  ⟨fun r _ => reg_congr r s t h, fun _ => by rw [h], by simp [FlagRule.allows, getFlag, h],
    by simp [FlagRule.allows, getFlag, h], by simp [FlagRule.allows, getFlag, h], by simp [FlagRule.allows, getFlag, h]⟩

/-- The frame looks at the cpu only. -/
theorem CpuFrame.congr {regs : List Reg8} {sp : Bool} {fc : FlagColumn} {s t s' t' : State} (h : CpuFrame regs sp fc s t)
    (hs : s'.cpu = s.cpu) (ht : t'.cpu = t.cpu) : CpuFrame regs sp fc s' t' where
  regs := fun r hr => by rw [reg_congr r t t' ht, reg_congr r s s' hs]; exact h.regs r hr
  sp := fun e => by rw [ht, hs]; exact h.sp e
  z := by have := h.z; simp only [getFlag, ht, hs] at this ⊢; exact this
  n := by have := h.n; simp only [getFlag, ht, hs] at this ⊢; exact this
  h := by have := h.h; simp only [getFlag, ht, hs] at this ⊢; exact this
  c := by have := h.c; simp only [getFlag, ht, hs] at this ⊢; exact this

theorem cpuFrame_setReg (r : Reg8) (v : Byte) (s : State) :
    CpuFrame [r] false ⟨.kept, .kept, .kept, .kept⟩ s (setReg r v s) where
  regs := fun r' hr => reg_setReg_ne r r' v s (by simpa using hr)
  sp := fun _ => by cases r <;> rfl
  z := by cases r <;> rfl
  n := by cases r <;> rfl
  h := by cases r <;> rfl
  c := by cases r <;> rfl

/-- Setting the flags after a frame that keeps them: every rule that allows the new value. -/
theorem CpuFrame.setFlags {regs : List Reg8} {sp : Bool} {s t : State} (f : Flags) (fc : FlagColumn)
    (h : CpuFrame regs sp ⟨.kept, .kept, .kept, .kept⟩ s t) (hz : fc.z.allows s.cpu.flags.z f.z)
    (hn : fc.n.allows s.cpu.flags.n f.n) (hh : fc.h.allows s.cpu.flags.h f.h) (hc : fc.c.allows s.cpu.flags.c f.c) :
    CpuFrame regs sp fc s (Machine.setFlags f t) :=
  ⟨fun r hr => by rw [reg_setFlags]; exact h.regs r hr, h.sp, hz, hn, hh, hc⟩

/-- The registers a write of `r` changes. -/
def r8Dest (r : R8) : List Reg8 :=
  match r with
  | .reg x => [x]
  | .mhl => []

theorem cpuFrame_readR8 (r : R8) (s : State) : CpuFrame [] false ⟨.kept, .kept, .kept, .kept⟩ s (readR8 r s).2 :=
  cpuFrame_of_cpu _ _ (by cases r <;> simp [readR8])

/-- A read then a write of the same operand. -/
theorem cpuFrame_updateR8 (r : R8) (v : Byte) (s : State) :
    CpuFrame (r8Dest r) false ⟨.kept, .kept, .kept, .kept⟩ s (writeR8 r v (readR8 r s).2) := by
  cases r with
  | reg x => exact cpuFrame_setReg x v s
  | mhl => exact cpuFrame_of_cpu _ _ (by simp [writeR8, readR8])

@[simp] theorem push16_cpu (v : Word) (s : State) : (push16 v s).cpu = { s.cpu with sp := s.cpu.sp - 1 - 1 } := by
  simp [push16, setSp]

@[simp] theorem pop16_cpu (s : State) : (pop16 s).2.cpu = { s.cpu with sp := s.cpu.sp + 1 + 1 } := by
  simp [pop16, setSp]

end Sys2Proof.Machine
end

