-- ==== Sys2Proof/Tests/Slice0.lean ====
section
/-! SUPPORT. Our own tests: the WellFormed smoke, words written out from the encodings, one step of each family with
the results 95_test_vectors.md gives, and for every statement with hypotheses a state that meets them. -/

open Sys2Proof Sys2Proof.Machine

namespace Sys2Proof.Tests

/-! What WellFormed refuses -/

theorem smoke_bare_cb_refused : Instr.wellFormed .cbPrefix = false := by decide
theorem smoke_no_entry_refused :
    [Instr.noEntryD3, Instr.noEntryDB, Instr.noEntryDD, Instr.noEntryE3, Instr.noEntryE4, Instr.noEntryEB, Instr.noEntryEC, Instr.noEntryED, Instr.noEntryF4, Instr.noEntryFC, Instr.noEntryFD].all (fun i => !i.wellFormed) = true := by decide
theorem smoke_placeholder_well_formed :
    [Instr.daa, .halt, .stop 0x00, .di, .ei, .nop].all Instr.wellFormed = true := by decide

/-! Words written out from the encodings -/

/-- 4x row, column x1 (30_encoding.md R315, R316, R321). -/
theorem test_decode_ld_b_c : decode [0x41] = .ok (.ldBC, []) := by decide

/-- 0x16 then d8 (30_encoding.md R315, R316, R321). -/
theorem test_decode_ld_d_d8 : decode [0x16, 0x7F] = .ok (.ldDD8 0x7F, []) := by decide

/-- 0x01, low, high (30_encoding.md R315, R316, R321). -/
theorem test_decode_ld_bc_d16 : decode [0x01, 0x34, 0x12] = .ok (.ldBcD16 0x1234, []) := by decide

/-- 0x32 (30_encoding.md R315, R316, R321). -/
theorem test_decode_ld_mhld_a : decode [0x32] = .ok (.ldMhldA, []) := by decide

/-- 0xF0 then a8 (30_encoding.md R315, R316, R321). -/
theorem test_decode_ldh_a_a8 : decode [0xF0, 0x44] = .ok (.ldhAMa8 0x44, []) := by decide

/-- 0x08, low, high (30_encoding.md R315, R316, R321). -/
theorem test_decode_ld_ma16_sp : decode [0x08, 0x00, 0xC1] = .ok (.ldMa16Sp 0xC100, []) := by decide

/-- 10 000 011 (30_encoding.md R315, R316, R321). -/
theorem test_decode_add_a_e : decode [0x83] = .ok (.addAE, []) := by decide

/-- 11 111 110 (30_encoding.md R315, R316, R321). -/
theorem test_decode_cp_d8 : decode [0xFE, 0x40] = .ok (.cpD8 0x40, []) := by decide

/-- 00 110 100 (30_encoding.md R315, R316, R321). -/
theorem test_decode_inc_mhl : decode [0x34] = .ok (.incMhl, []) := by decide

/-- 00 01 1001 (30_encoding.md R315, R316, R321). -/
theorem test_decode_add_hl_de : decode [0x19] = .ok (.addHlDe, []) := by decide

/-- 0xE8 then e8 (30_encoding.md R315, R316, R321). -/
theorem test_decode_add_sp_e8 : decode [0xE8, 0xFF] = .ok (.addSpE8 0xFF, []) := by decide

/-- 00011111 (30_encoding.md R315, R316, R321). -/
theorem test_decode_rra : decode [0x1F] = .ok (.rra, []) := by decide

/-- 0xCB, 00 101 010 (30_encoding.md R315, R316, R321). -/
theorem test_decode_sra_d : decode [0xCB, 0x2A] = .ok (.sraD, []) := by decide

/-- 0xCB, 01 011 110 (30_encoding.md R315, R316, R321). -/
theorem test_decode_bit_3_mhl : decode [0xCB, 0x5E] = .ok (.bit3Mhl, []) := by decide

/-- 0xCB, 10 111 111 (30_encoding.md R315, R316, R321). -/
theorem test_decode_res_7_a : decode [0xCB, 0xBF] = .ok (.res7A, []) := by decide

/-- 0xCB, 11 000 000 (30_encoding.md R315, R316, R321). -/
theorem test_decode_set_0_b : decode [0xCB, 0xC0] = .ok (.set0B, []) := by decide

/-- 110 10 100, low, high (30_encoding.md R315, R316, R321). -/
theorem test_decode_call_nc : decode [0xD4, 0x34, 0x12] = .ok (.callNcA16 0x1234, []) := by decide

/-- 001 01 000, e8 (30_encoding.md R315, R316, R321). -/
theorem test_decode_jr_z : decode [0x28, 0xFC] = .ok (.jrZE8 0xFC, []) := by decide

/-- 110 11 000 (30_encoding.md R315, R316, R321). -/
theorem test_decode_ret_c : decode [0xD8] = .ok (.retC, []) := by decide

/-- 11 011 111 (30_encoding.md R315, R316, R321). -/
theorem test_decode_rst_18 : decode [0xDF] = .ok (.rst18, []) := by decide

/-- 11 10 0001 (30_encoding.md R315, R316, R321). -/
theorem test_decode_pop_hl : decode [0xE1] = .ok (.popHl, []) := by decide

/-- 0x10 and a byte it ignores (30_encoding.md R315, R316, R321). -/
theorem test_decode_stop : decode [0x10, 0x3C] = .ok (.stop 0x3C, []) := by decide

/-- 00100111 (30_encoding.md R315, R316, R321). -/
theorem test_decode_daa : decode [0x27] = .ok (.daa, []) := by decide

/-- 11101011 (30_encoding.md R315, R316, R321). -/
theorem test_decode_no_entry : decode [0xEB] = .ok (.noEntryEB, []) := by decide

/-- The instruction read at the front of `bytes`. -/
def firstInstr (bytes : List Byte) : Option Instr :=
  match decode bytes with
  | .ok (i, _) => some i
  | .error _ => none

/-- The sixteen opcodes of row `h` of the map, in column order. -/
def mapRow (h : Nat) : List Byte := (List.range 16).map (fun x => BitVec.ofNat 8 (16 * h + x))

/-- Row 0x of 30_encoding.md R315, each opcode followed by 0x34 0x12. -/
theorem test_map_primary_0 : (mapRow 0).map (fun op => firstInstr [op, 0x34, 0x12]) = [
    some .nop, some (.ldBcD16 0x1234), some .ldMbcA, some .incBc, some .incB, some .decB, some (.ldBD8 0x34),
    some .rlca, some (.ldMa16Sp 0x1234), some .addHlBc, some .ldAMbc, some .decBc, some .incC, some .decC,
    some (.ldCD8 0x34), some .rrca] := by decide

/-- Row 1x of 30_encoding.md R315, each opcode followed by 0x34 0x12. -/
theorem test_map_primary_1 : (mapRow 1).map (fun op => firstInstr [op, 0x34, 0x12]) = [
    some (.stop 0x34), some (.ldDeD16 0x1234), some .ldMdeA, some .incDe, some .incD, some .decD,
    some (.ldDD8 0x34), some .rla, some (.jrE8 0x34), some .addHlDe, some .ldAMde, some .decDe, some .incE,
    some .decE, some (.ldED8 0x34), some .rra] := by decide

/-- Row 2x of 30_encoding.md R315, each opcode followed by 0x34 0x12. -/
theorem test_map_primary_2 : (mapRow 2).map (fun op => firstInstr [op, 0x34, 0x12]) = [
    some (.jrNzE8 0x34), some (.ldHlD16 0x1234), some .ldMhliA, some .incHl, some .incH, some .decH,
    some (.ldHD8 0x34), some .daa, some (.jrZE8 0x34), some .addHlHl, some .ldAMhli, some .decHl, some .incL,
    some .decL, some (.ldLD8 0x34), some .cpl] := by decide

/-- Row 3x of 30_encoding.md R315, each opcode followed by 0x34 0x12. -/
theorem test_map_primary_3 : (mapRow 3).map (fun op => firstInstr [op, 0x34, 0x12]) = [
    some (.jrNcE8 0x34), some (.ldSpD16 0x1234), some .ldMhldA, some .incSp, some .incMhl, some .decMhl,
    some (.ldMhlD8 0x34), some .scf, some (.jrCE8 0x34), some .addHlSp, some .ldAMhld, some .decSp,
    some .incA, some .decA, some (.ldAD8 0x34), some .ccf] := by decide

/-- Row 4x of 30_encoding.md R315, each opcode followed by 0x34 0x12. -/
theorem test_map_primary_4 : (mapRow 4).map (fun op => firstInstr [op, 0x34, 0x12]) = [
    some .ldBB, some .ldBC, some .ldBD, some .ldBE, some .ldBH, some .ldBL, some .ldBMhl, some .ldBA,
    some .ldCB, some .ldCC, some .ldCD, some .ldCE, some .ldCH, some .ldCL, some .ldCMhl, some .ldCA] := by decide

/-- Row 5x of 30_encoding.md R315, each opcode followed by 0x34 0x12. -/
theorem test_map_primary_5 : (mapRow 5).map (fun op => firstInstr [op, 0x34, 0x12]) = [
    some .ldDB, some .ldDC, some .ldDD, some .ldDE, some .ldDH, some .ldDL, some .ldDMhl, some .ldDA,
    some .ldEB, some .ldEC, some .ldED, some .ldEE, some .ldEH, some .ldEL, some .ldEMhl, some .ldEA] := by decide

/-- Row 6x of 30_encoding.md R315, each opcode followed by 0x34 0x12. -/
theorem test_map_primary_6 : (mapRow 6).map (fun op => firstInstr [op, 0x34, 0x12]) = [
    some .ldHB, some .ldHC, some .ldHD, some .ldHE, some .ldHH, some .ldHL, some .ldHMhl, some .ldHA,
    some .ldLB, some .ldLC, some .ldLD, some .ldLE, some .ldLH, some .ldLL, some .ldLMhl, some .ldLA] := by decide

/-- Row 7x of 30_encoding.md R315, each opcode followed by 0x34 0x12. -/
theorem test_map_primary_7 : (mapRow 7).map (fun op => firstInstr [op, 0x34, 0x12]) = [
    some .ldMhlB, some .ldMhlC, some .ldMhlD, some .ldMhlE, some .ldMhlH, some .ldMhlL, some .halt,
    some .ldMhlA, some .ldAB, some .ldAC, some .ldAD, some .ldAE, some .ldAH, some .ldAL, some .ldAMhl,
    some .ldAA] := by decide

/-- Row 8x of 30_encoding.md R315, each opcode followed by 0x34 0x12. -/
theorem test_map_primary_8 : (mapRow 8).map (fun op => firstInstr [op, 0x34, 0x12]) = [
    some .addAB, some .addAC, some .addAD, some .addAE, some .addAH, some .addAL, some .addAMhl, some .addAA,
    some .adcAB, some .adcAC, some .adcAD, some .adcAE, some .adcAH, some .adcAL, some .adcAMhl, some .adcAA] := by decide

/-- Row 9x of 30_encoding.md R315, each opcode followed by 0x34 0x12. -/
theorem test_map_primary_9 : (mapRow 9).map (fun op => firstInstr [op, 0x34, 0x12]) = [
    some .subB, some .subC, some .subD, some .subE, some .subH, some .subL, some .subMhl, some .subA,
    some .sbcAB, some .sbcAC, some .sbcAD, some .sbcAE, some .sbcAH, some .sbcAL, some .sbcAMhl, some .sbcAA] := by decide

/-- Row Ax of 30_encoding.md R315, each opcode followed by 0x34 0x12. -/
theorem test_map_primary_a : (mapRow 10).map (fun op => firstInstr [op, 0x34, 0x12]) = [
    some .andB, some .andC, some .andD, some .andE, some .andH, some .andL, some .andMhl, some .andA,
    some .xorB, some .xorC, some .xorD, some .xorE, some .xorH, some .xorL, some .xorMhl, some .xorA] := by decide

/-- Row Bx of 30_encoding.md R315, each opcode followed by 0x34 0x12. -/
theorem test_map_primary_b : (mapRow 11).map (fun op => firstInstr [op, 0x34, 0x12]) = [
    some .orB, some .orC, some .orD, some .orE, some .orH, some .orL, some .orMhl, some .orA, some .cpB,
    some .cpC, some .cpD, some .cpE, some .cpH, some .cpL, some .cpMhl, some .cpA] := by decide

/-- Row Cx of 30_encoding.md R315, each opcode followed by 0x34 0x12; column B is the prefix, so 0x34 is SWAP H. -/
theorem test_map_primary_c : (mapRow 12).map (fun op => firstInstr [op, 0x34, 0x12]) = [
    some .retNz, some .popBc, some (.jpNzA16 0x1234), some (.jpA16 0x1234), some (.callNzA16 0x1234),
    some .pushBc, some (.addAD8 0x34), some .rst00, some .retZ, some .ret, some (.jpZA16 0x1234),
    some .swapH, some (.callZA16 0x1234), some (.callA16 0x1234), some (.adcAD8 0x34), some .rst08] := by decide

/-- Row Dx of 30_encoding.md R315, each opcode followed by 0x34 0x12. -/
theorem test_map_primary_d : (mapRow 13).map (fun op => firstInstr [op, 0x34, 0x12]) = [
    some .retNc, some .popDe, some (.jpNcA16 0x1234), some .noEntryD3, some (.callNcA16 0x1234),
    some .pushDe, some (.subD8 0x34), some .rst10, some .retC, some .reti, some (.jpCA16 0x1234),
    some .noEntryDB, some (.callCA16 0x1234), some .noEntryDD, some (.sbcAD8 0x34), some .rst18] := by decide

/-- Row Ex of 30_encoding.md R315, each opcode followed by 0x34 0x12. -/
theorem test_map_primary_e : (mapRow 14).map (fun op => firstInstr [op, 0x34, 0x12]) = [
    some (.ldhMa8A 0x34), some .popHl, some .ldMcA, some .noEntryE3, some .noEntryE4, some .pushHl,
    some (.andD8 0x34), some .rst20, some (.addSpE8 0x34), some .jpHl, some (.ldMa16A 0x1234),
    some .noEntryEB, some .noEntryEC, some .noEntryED, some (.xorD8 0x34), some .rst28] := by decide

/-- Row Fx of 30_encoding.md R315, each opcode followed by 0x34 0x12. -/
theorem test_map_primary_f : (mapRow 15).map (fun op => firstInstr [op, 0x34, 0x12]) = [
    some (.ldhAMa8 0x34), some .popAf, some .ldAMc, some .di, some .noEntryF4, some .pushAf,
    some (.orD8 0x34), some .rst30, some (.ldHlSpE8 0x34), some .ldSpHl, some (.ldAMa16 0x1234), some .ei,
    some .noEntryFC, some .noEntryFD, some (.cpD8 0x34), some .rst38] := by decide

/-- Row 0x of 30_encoding.md R316. -/
theorem test_map_cb_0 : (mapRow 0).map (fun op => firstInstr [0xCB, op]) = [
    some .rlcB, some .rlcC, some .rlcD, some .rlcE, some .rlcH, some .rlcL, some .rlcMhl, some .rlcA,
    some .rrcB, some .rrcC, some .rrcD, some .rrcE, some .rrcH, some .rrcL, some .rrcMhl, some .rrcA] := by decide

/-- Row 1x of 30_encoding.md R316. -/
theorem test_map_cb_1 : (mapRow 1).map (fun op => firstInstr [0xCB, op]) = [
    some .rlB, some .rlC, some .rlD, some .rlE, some .rlH, some .rlL, some .rlMhl, some .rlA, some .rrB,
    some .rrC, some .rrD, some .rrE, some .rrH, some .rrL, some .rrMhl, some .rrA] := by decide

/-- Row 2x of 30_encoding.md R316. -/
theorem test_map_cb_2 : (mapRow 2).map (fun op => firstInstr [0xCB, op]) = [
    some .slaB, some .slaC, some .slaD, some .slaE, some .slaH, some .slaL, some .slaMhl, some .slaA,
    some .sraB, some .sraC, some .sraD, some .sraE, some .sraH, some .sraL, some .sraMhl, some .sraA] := by decide

/-- Row 3x of 30_encoding.md R316. -/
theorem test_map_cb_3 : (mapRow 3).map (fun op => firstInstr [0xCB, op]) = [
    some .swapB, some .swapC, some .swapD, some .swapE, some .swapH, some .swapL, some .swapMhl, some .swapA,
    some .srlB, some .srlC, some .srlD, some .srlE, some .srlH, some .srlL, some .srlMhl, some .srlA] := by decide

/-- Row 4x of 30_encoding.md R316. -/
theorem test_map_cb_4 : (mapRow 4).map (fun op => firstInstr [0xCB, op]) = [
    some .bit0B, some .bit0C, some .bit0D, some .bit0E, some .bit0H, some .bit0L, some .bit0Mhl, some .bit0A,
    some .bit1B, some .bit1C, some .bit1D, some .bit1E, some .bit1H, some .bit1L, some .bit1Mhl, some .bit1A] := by decide

/-- Row 5x of 30_encoding.md R316. -/
theorem test_map_cb_5 : (mapRow 5).map (fun op => firstInstr [0xCB, op]) = [
    some .bit2B, some .bit2C, some .bit2D, some .bit2E, some .bit2H, some .bit2L, some .bit2Mhl, some .bit2A,
    some .bit3B, some .bit3C, some .bit3D, some .bit3E, some .bit3H, some .bit3L, some .bit3Mhl, some .bit3A] := by decide

/-- Row 6x of 30_encoding.md R316. -/
theorem test_map_cb_6 : (mapRow 6).map (fun op => firstInstr [0xCB, op]) = [
    some .bit4B, some .bit4C, some .bit4D, some .bit4E, some .bit4H, some .bit4L, some .bit4Mhl, some .bit4A,
    some .bit5B, some .bit5C, some .bit5D, some .bit5E, some .bit5H, some .bit5L, some .bit5Mhl, some .bit5A] := by decide

/-- Row 7x of 30_encoding.md R316. -/
theorem test_map_cb_7 : (mapRow 7).map (fun op => firstInstr [0xCB, op]) = [
    some .bit6B, some .bit6C, some .bit6D, some .bit6E, some .bit6H, some .bit6L, some .bit6Mhl, some .bit6A,
    some .bit7B, some .bit7C, some .bit7D, some .bit7E, some .bit7H, some .bit7L, some .bit7Mhl, some .bit7A] := by decide

/-- Row 8x of 30_encoding.md R316. -/
theorem test_map_cb_8 : (mapRow 8).map (fun op => firstInstr [0xCB, op]) = [
    some .res0B, some .res0C, some .res0D, some .res0E, some .res0H, some .res0L, some .res0Mhl, some .res0A,
    some .res1B, some .res1C, some .res1D, some .res1E, some .res1H, some .res1L, some .res1Mhl, some .res1A] := by decide

/-- Row 9x of 30_encoding.md R316. -/
theorem test_map_cb_9 : (mapRow 9).map (fun op => firstInstr [0xCB, op]) = [
    some .res2B, some .res2C, some .res2D, some .res2E, some .res2H, some .res2L, some .res2Mhl, some .res2A,
    some .res3B, some .res3C, some .res3D, some .res3E, some .res3H, some .res3L, some .res3Mhl, some .res3A] := by decide

/-- Row Ax of 30_encoding.md R316. -/
theorem test_map_cb_a : (mapRow 10).map (fun op => firstInstr [0xCB, op]) = [
    some .res4B, some .res4C, some .res4D, some .res4E, some .res4H, some .res4L, some .res4Mhl, some .res4A,
    some .res5B, some .res5C, some .res5D, some .res5E, some .res5H, some .res5L, some .res5Mhl, some .res5A] := by decide

/-- Row Bx of 30_encoding.md R316. -/
theorem test_map_cb_b : (mapRow 11).map (fun op => firstInstr [0xCB, op]) = [
    some .res6B, some .res6C, some .res6D, some .res6E, some .res6H, some .res6L, some .res6Mhl, some .res6A,
    some .res7B, some .res7C, some .res7D, some .res7E, some .res7H, some .res7L, some .res7Mhl, some .res7A] := by decide

/-- Row Cx of 30_encoding.md R316. -/
theorem test_map_cb_c : (mapRow 12).map (fun op => firstInstr [0xCB, op]) = [
    some .set0B, some .set0C, some .set0D, some .set0E, some .set0H, some .set0L, some .set0Mhl, some .set0A,
    some .set1B, some .set1C, some .set1D, some .set1E, some .set1H, some .set1L, some .set1Mhl, some .set1A] := by decide

/-- Row Dx of 30_encoding.md R316. -/
theorem test_map_cb_d : (mapRow 13).map (fun op => firstInstr [0xCB, op]) = [
    some .set2B, some .set2C, some .set2D, some .set2E, some .set2H, some .set2L, some .set2Mhl, some .set2A,
    some .set3B, some .set3C, some .set3D, some .set3E, some .set3H, some .set3L, some .set3Mhl, some .set3A] := by decide

/-- Row Ex of 30_encoding.md R316. -/
theorem test_map_cb_e : (mapRow 14).map (fun op => firstInstr [0xCB, op]) = [
    some .set4B, some .set4C, some .set4D, some .set4E, some .set4H, some .set4L, some .set4Mhl, some .set4A,
    some .set5B, some .set5C, some .set5D, some .set5E, some .set5H, some .set5L, some .set5Mhl, some .set5A] := by decide

/-- Row Fx of 30_encoding.md R316. -/
theorem test_map_cb_f : (mapRow 15).map (fun op => firstInstr [0xCB, op]) = [
    some .set6B, some .set6C, some .set6D, some .set6E, some .set6H, some .set6L, some .set6Mhl, some .set6A,
    some .set7B, some .set7C, some .set7D, some .set7E, some .set7H, some .set7L, some .set7Mhl, some .set7A] := by decide

/-- No byte, or too few immediate bytes, is no instruction; a lone 0xCB is the bare marker, which is not well formed
(notes/assumptions/10.md). -/
theorem test_decode_truncated :
    (decode []).isOk = false ∧ (decode [0xC3, 0x50]).isOk = false ∧ decode [0xCB] = .ok (.cbPrefix, []) := by decide

/-- The table numbers a CB row with 0xCB in bits 15:8, any other row with its first byte in bits 7:0
(notes/assumptions/11.md). -/
theorem test_table_words :
    decodeTableWord 8 0x78 = some .ldAB ∧ decodeTableWord 24 0x0150C3 = some (.jpA16 0x0150) ∧
    decodeTableWord 16 0xCB37 = some .swapA ∧ decodeTableWord 16 0x37CB = some .swapA ∧ decodeTableWord 8 0xC3 = some (.jpA16 0x0000) := by decide

/-! One step -/

/-- A machine with the overlay removed and `bytes` at `pc`. -/
def testCode (pc : Word) (bytes : List Byte) : State :=
  placeBytes pc bytes (setPc pc (setMem { State.reset.mem with bootBound := false } State.reset))

/-- The state after one step, or the state itself where there is none. -/
def testRun (s : State) : State :=
  match step s with
  | .next t => t
  | .fault _ => s
  | .refused _ => s

/-- The same machine with placeholders as no-ops. -/
def sourceNop (s : State) : State := { s with cfg := { s.cfg with placeholderMode := .sourceNop } }

/-- Vector A1 of 95_test_vectors.md: ADD A,B. -/
theorem test_add_a_b :
    let t := testRun (setReg .b 0xC6 (setReg .a 0x3A (testCode 0xC000 [0x80])))
    (reg .a t, flagsToByte t.cpu.flags, t.cpu.pc, t.sched.now) = (0x00, 0xB0, 0xC001, 4) := by decide

/-- Vector A8 of 95_test_vectors.md: ADC A,C. -/
theorem test_adc_half_carry_from_carry :
    let t := testRun (setFlags (flagsOfByte 0x10) (setReg .c 0x01 (setReg .a 0x0E (testCode 0xC000 [0x89]))))
    (reg .a t, flagsToByte t.cpu.flags, t.cpu.pc, t.sched.now) = (0x10, 0x20, 0xC001, 4) := by decide

/-- Vector A12 of 95_test_vectors.md: SUB d8. -/
theorem test_sub_d8_borrow :
    let t := testRun (setReg .a 0x3E (testCode 0xC000 [0xD6, 0x40]))
    (reg .a t, flagsToByte t.cpu.flags, t.cpu.pc, t.sched.now) = (0xFE, 0x50, 0xC002, 8) := by decide

/-- Vector A16 of 95_test_vectors.md: SBC A,A. -/
theorem test_sbc_a_a_with_carry :
    let t := testRun (setFlags (flagsOfByte 0x10) (setReg .a 0x12 (testCode 0xC000 [0x9F])))
    (reg .a t, flagsToByte t.cpu.flags, t.cpu.pc, t.sched.now) = (0xFF, 0x70, 0xC001, 4) := by decide

/-- Vector A17 of 95_test_vectors.md: AND d8. -/
theorem test_and_sets_h :
    let t := testRun (setReg .a 0x5A (testCode 0xC000 [0xE6, 0x3F]))
    (reg .a t, flagsToByte t.cpu.flags, t.cpu.pc, t.sched.now) = (0x1A, 0x20, 0xC002, 8) := by decide

/-- Vector A19 of 95_test_vectors.md: XOR A. -/
theorem test_xor_a_a :
    let t := testRun (setFlags (flagsOfByte 0x70) (setReg .a 0x77 (testCode 0xC000 [0xAF])))
    (reg .a t, flagsToByte t.cpu.flags, t.cpu.pc, t.sched.now) = (0x00, 0x80, 0xC001, 4) := by decide

/-- Vector A20 of 95_test_vectors.md: OR C. -/
theorem test_or_clears_c :
    let t := testRun (setFlags (flagsOfByte 0x10) (setReg .c 0x00 (setReg .a 0x00 (testCode 0xC000 [0xB1]))))
    (flagsToByte t.cpu.flags, t.cpu.pc, t.sched.now) = (0x80, 0xC001, 4) := by decide

/-- Vector A24 of 95_test_vectors.md: CP (HL). -/
theorem test_cp_mhl_keeps_a :
    let t := testRun (placeByte 0xC200 0x40 (setPair .hl 0xC200 (setReg .a 0x3C (testCode 0xC000 [0xBE]))))
    (flagsToByte t.cpu.flags, t.cpu.pc, t.sched.now, reg .a t) = (0x50, 0xC001, 8, 0x3C) := by decide

/-- Vector A25 of 95_test_vectors.md: INC A. -/
theorem test_inc_a_keeps_c :
    let t := testRun (setFlags (flagsOfByte 0x10) (setReg .a 0xFF (testCode 0xC000 [0x3C])))
    (reg .a t, flagsToByte t.cpu.flags, t.cpu.pc, t.sched.now) = (0x00, 0xB0, 0xC001, 4) := by decide

/-- Vector A31 of 95_test_vectors.md: DEC (HL). -/
theorem test_dec_mhl :
    let t := testRun (placeByte 0xC300 0x01 (setPair .hl 0xC300 (testCode 0xC000 [0x35])))
    (flagsToByte t.cpu.flags, t.cpu.pc, peek 0xC300 t, t.sched.now) = (0xC0, 0xC001, 0x00, 12) := by decide

/-- Vector A33 of 95_test_vectors.md: CPL. -/
theorem test_cpl_keeps_z :
    let t := testRun (setFlags (flagsOfByte 0x80) (setReg .a 0x00 (testCode 0xC000 [0x2F])))
    (reg .a t, flagsToByte t.cpu.flags, t.cpu.pc, t.sched.now) = (0xFF, 0xE0, 0xC001, 4) := by decide

/-- Vector A35 of 95_test_vectors.md: CCF. -/
theorem test_ccf_clears_h :
    let t := testRun (setFlags (flagsOfByte 0x70) (testCode 0xC000 [0x3F]))
    (flagsToByte t.cpu.flags, t.cpu.pc, t.sched.now) = (0x00, 0xC001, 4) := by decide

/-- Vector A34 of 95_test_vectors.md: SCF. -/
theorem test_scf :
    let t := testRun (setFlags (flagsOfByte 0xE0) (testCode 0xC000 [0x37]))
    (flagsToByte t.cpu.flags, t.cpu.pc, t.sched.now) = (0x90, 0xC001, 4) := by decide

/-- Vector W4 of 95_test_vectors.md: ADD HL,DE. -/
theorem test_add_hl_carry_between_bytes :
    let t := testRun (setPair .de 0x0001 (setPair .hl 0x0FFF (testCode 0xC000 [0x19])))
    (flagsToByte t.cpu.flags, pair .hl t, t.cpu.pc, t.sched.now) = (0x20, 0x1000, 0xC001, 8) := by decide

/-- Vector W5 of 95_test_vectors.md: ADD HL,SP. -/
theorem test_add_hl_sp_keeps_z :
    let t := testRun (setFlags (flagsOfByte 0x80) (setPair .sp 0x0001 (setPair .hl 0xFFFF (testCode 0xC000 [0x39]))))
    (flagsToByte t.cpu.flags, pair .hl t, t.cpu.pc, t.sched.now) = (0xB0, 0x0000, 0xC001, 8) := by decide

/-- Vector W9 of 95_test_vectors.md: DEC DE. -/
theorem test_dec_de_wraps :
    let t := testRun (setFlags (flagsOfByte 0xF0) (setPair .de 0x0000 (testCode 0xC000 [0x1B])))
    (pair .de t, t.cpu.pc, t.sched.now) = (0xFFFF, 0xC001, 8) := by decide

/-- Vector W13 of 95_test_vectors.md: ADD SP,e8. -/
theorem test_add_sp_minus_one :
    let t := testRun (setPair .sp 0x0001 (testCode 0xC000 [0xE8, 0xFF]))
    (flagsToByte t.cpu.flags, pair .sp t, t.cpu.pc, t.sched.now) = (0x30, 0x0000, 0xC002, 16) := by decide

/-- Vector W15 of 95_test_vectors.md: LD HL,SP+e8. -/
theorem test_ld_hl_sp_minus_128 :
    let t := testRun (setPair .hl 0x1234 (setPair .sp 0x0080 (testCode 0xC000 [0xF8, 0x80])))
    (flagsToByte t.cpu.flags, pair .hl t, t.cpu.pc, t.sched.now) = (0x10, 0x0000, 0xC002, 12) := by decide

/-- Vector S2 of 95_test_vectors.md: RLCA. -/
theorem test_rlca_clears_z :
    let t := testRun (setFlags (flagsOfByte 0x80) (setReg .a 0x00 (testCode 0xC000 [0x07])))
    (flagsToByte t.cpu.flags, t.cpu.pc, t.sched.now) = (0x00, 0xC001, 4) := by decide

/-- Vector S3 of 95_test_vectors.md: RRCA. -/
theorem test_rrca :
    let t := testRun (setReg .a 0x3B (testCode 0xC000 [0x0F]))
    (reg .a t, flagsToByte t.cpu.flags, t.cpu.pc, t.sched.now) = (0x9D, 0x10, 0xC001, 4) := by decide

/-- Vector S5 of 95_test_vectors.md: RLA. -/
theorem test_rla_zero :
    let t := testRun (setReg .a 0x80 (testCode 0xC000 [0x17]))
    (reg .a t, flagsToByte t.cpu.flags, t.cpu.pc, t.sched.now) = (0x00, 0x10, 0xC001, 4) := by decide

/-- Vector S7 of 95_test_vectors.md: RRA. -/
theorem test_rra_carry_enters :
    let t := testRun (setFlags (flagsOfByte 0x10) (setReg .a 0x00 (testCode 0xC000 [0x1F])))
    (reg .a t, flagsToByte t.cpu.flags, t.cpu.pc, t.sched.now) = (0x80, 0x00, 0xC001, 4) := by decide

/-- Vector S9 of 95_test_vectors.md: RLC (HL). -/
theorem test_rlc_mhl_zero :
    let t := testRun (placeByte 0xC400 0x00 (setPair .hl 0xC400 (testCode 0xC000 [0xCB, 0x06])))
    (flagsToByte t.cpu.flags, t.cpu.pc, t.sched.now) = (0x80, 0xC002, 16) := by decide

/-- Vector S10 of 95_test_vectors.md: RRC C. -/
theorem test_rrc_c :
    let t := testRun (setReg .c 0x01 (testCode 0xC000 [0xCB, 0x09]))
    (flagsToByte t.cpu.flags, pair .bc t, t.cpu.pc, t.sched.now) = (0x10, 0x0080, 0xC002, 8) := by decide

/-- Vector S11 of 95_test_vectors.md: RL L. -/
theorem test_rl_l :
    let t := testRun (setReg .l 0x80 (testCode 0xC000 [0xCB, 0x15]))
    (flagsToByte t.cpu.flags, pair .hl t, t.cpu.pc, t.sched.now) = (0x90, 0x0000, 0xC002, 8) := by decide

/-- Vector S13 of 95_test_vectors.md: RR D. -/
theorem test_rr_d_carry :
    let t := testRun (setFlags (flagsOfByte 0x10) (setReg .d 0x00 (testCode 0xC000 [0xCB, 0x1A])))
    (flagsToByte t.cpu.flags, pair .de t, t.cpu.pc, t.sched.now) = (0x00, 0x8000, 0xC002, 8) := by decide

/-- Vector S14 of 95_test_vectors.md: SLA D. -/
theorem test_sla_d :
    let t := testRun (setReg .d 0x80 (testCode 0xC000 [0xCB, 0x22]))
    (flagsToByte t.cpu.flags, pair .de t, t.cpu.pc, t.sched.now) = (0x90, 0x0000, 0xC002, 8) := by decide

/-- Vector S18 of 95_test_vectors.md: SRA H. -/
theorem test_sra_keeps_sign :
    let t := testRun (setReg .h 0xFF (testCode 0xC000 [0xCB, 0x2C]))
    (flagsToByte t.cpu.flags, t.cpu.pc, t.sched.now) = (0x10, 0xC002, 8) := by decide

/-- Vector S21 of 95_test_vectors.md: SWAP (HL). -/
theorem test_swap_mhl :
    let t := testRun (placeByte 0xC400 0x12 (setPair .hl 0xC400 (testCode 0xC000 [0xCB, 0x36])))
    (t.cpu.pc, peek 0xC400 t, t.sched.now) = (0xC002, 0x21, 16) := by decide

/-- Vector S23 of 95_test_vectors.md: SRL C. -/
theorem test_srl_c :
    let t := testRun (setReg .c 0x01 (testCode 0xC000 [0xCB, 0x39]))
    (flagsToByte t.cpu.flags, pair .bc t, t.cpu.pc, t.sched.now) = (0x90, 0x0000, 0xC002, 8) := by decide

/-- Vector B2 of 95_test_vectors.md: BIT 7,H. -/
theorem test_bit_keeps_c :
    let t := testRun (setFlags (flagsOfByte 0x10) (setReg .h 0x7F (testCode 0xC000 [0xCB, 0x7C])))
    (flagsToByte t.cpu.flags, t.cpu.pc, t.sched.now) = (0xB0, 0xC002, 8) := by decide

/-- Vector B7 of 95_test_vectors.md: RES 7,(HL). -/
theorem test_res_mhl :
    let t := testRun (placeByte 0xC500 0xFF (setPair .hl 0xC500 (testCode 0xC000 [0xCB, 0xBE])))
    (t.cpu.pc, peek 0xC500 t, t.sched.now) = (0xC002, 0x7F, 16) := by decide

/-- Vector B10 of 95_test_vectors.md: SET 1,E. -/
theorem test_set_1_e :
    let t := testRun (setReg .e 0x00 (testCode 0xC000 [0xCB, 0xCB]))
    (pair .de t, t.cpu.pc, t.sched.now) = (0x0002, 0xC002, 8) := by decide

/-- Vector C3 of 95_test_vectors.md: JP Z,a16. -/
theorem test_jp_z_not_taken :
    let t := testRun (setFlags (flagsOfByte 0x00) (testCode 0xC000 [0xCA, 0x00, 0x30]))
    (t.cpu.pc, t.sched.now) = (0xC003, 12) := by decide

/-- Vector C5 of 95_test_vectors.md: JP HL. -/
theorem test_jp_hl :
    let t := testRun (setPair .hl 0x4000 (testCode 0xC000 [0xE9]))
    (t.cpu.pc, t.sched.now) = (0x4000, 4) := by decide

/-- Vector C8 of 95_test_vectors.md: JR NZ,e8. -/
theorem test_jr_backward :
    let t := testRun (setFlags (flagsOfByte 0x00) (testCode 0xC010 [0x20, 0xFC]))
    (t.cpu.pc, t.sched.now) = (0xC00E, 12) := by decide

/-- Vector C13 of 95_test_vectors.md: CALL C,a16. -/
theorem test_call_c_taken :
    let t := testRun (setFlags (flagsOfByte 0x10) (setPair .sp 0xD000 (testCode 0xC000 [0xDC, 0x00, 0xD0])))
    (pair .sp t, t.cpu.pc, peek 0xCFFE t, peek 0xCFFF t, t.sched.now) = (0xCFFE, 0xD000, 0x03, 0xC0, 24) := by decide

/-- Vector C16 of 95_test_vectors.md: RET NC. -/
theorem test_ret_nc_taken :
    let t := testRun (placeByte 0xFFFD 0x80 (placeByte 0xFFFC 0x03 (setFlags (flagsOfByte 0x00) (setPair .sp 0xFFFC (testCode 0xC000 [0xD0])))))
    (pair .sp t, t.cpu.pc, t.sched.now) = (0xFFFE, 0x8003, 20) := by decide

/-- Vector C17 of 95_test_vectors.md: RETI. -/
theorem test_reti :
    let t := testRun (placeByte 0xFFFD 0x80 (placeByte 0xFFFC 0x03 (setPair .sp 0xFFFC (testCode 0xC000 [0xD9]))))
    (pair .sp t, t.cpu.pc, t.sched.now) = (0xFFFE, 0x8003, 16) := by decide

/-- Vector C18 of 95_test_vectors.md: RST 0x28. -/
theorem test_rst_28 :
    let t := testRun (setPair .sp 0xD000 (testCode 0xC200 [0xEF]))
    (pair .sp t, t.cpu.pc, peek 0xCFFE t, peek 0xCFFF t, t.sched.now) = (0xCFFE, 0x0028, 0x01, 0xC2, 16) := by decide

/-- Vector C21 of 95_test_vectors.md: PUSH AF. -/
theorem test_push_af :
    let t := testRun (setPair .sp 0xDFFE (setFlags (flagsOfByte 0xB0) (setReg .a 0x12 (testCode 0xC000 [0xF5]))))
    (pair .sp t, t.cpu.pc, peek 0xDFFC t, peek 0xDFFD t, t.sched.now) = (0xDFFC, 0xC001, 0xB0, 0x12, 16) := by decide

/-- Vector C23 of 95_test_vectors.md: POP AF. -/
theorem test_pop_af_low_nibble :
    let t := testRun (placeByte 0xD001 0x12 (placeByte 0xD000 0xFF (setPair .sp 0xD000 (testCode 0xC000 [0xF1]))))
    (reg .a t, flagsToByte t.cpu.flags, pair .sp t, t.cpu.pc, t.sched.now) = (0x12, 0xF0, 0xD002, 0xC001, 12) := by decide

/-- Vector C24 of 95_test_vectors.md: POP HL. -/
theorem test_pop_hl_wraps :
    let t := testRun (placeByte 0xFFFE 0x11 (setPair .sp 0xFFFE (testCode 0xC000 [0xE1])))
    (pair .hl t, pair .sp t, t.cpu.pc, t.sched.now) = (0x0011, 0x0000, 0xC001, 12) := by decide

/-- Vector L3 of 95_test_vectors.md: LD H,(HL). -/
theorem test_ld_h_mhl :
    let t := testRun (placeByte 0xC100 0x77 (setPair .hl 0xC100 (testCode 0xC000 [0x66])))
    (pair .hl t, t.cpu.pc, t.sched.now) = (0x7700, 0xC001, 8) := by decide

/-- Vector L4 of 95_test_vectors.md: LD (HL),H. -/
theorem test_ld_mhl_h :
    let t := testRun (setPair .hl 0xC180 (testCode 0xC000 [0x74]))
    (t.cpu.pc, peek 0xC180 t, t.sched.now) = (0xC001, 0xC1, 8) := by decide

/-- Vector L7 of 95_test_vectors.md: LD A,(BC). -/
theorem test_ld_a_echo :
    let t := testRun (setPair .bc 0xE000 (testCode 0xC000 [0x0A]))
    (reg .a t, t.cpu.pc, t.sched.now) = (0xFF, 0xC001, 8) := by decide

/-- Vector L9 of 95_test_vectors.md: LD (BC),A. -/
theorem test_ld_rom_not_changed :
    let t := testRun (setReg .a 0x01 (setPair .bc 0x2000 (testCode 0xC000 [0x02])))
    (t.cpu.pc, t.sched.now, peek 0x2000 t) = (0xC001, 8, 0x00) := by decide

/-- Vector L11 of 95_test_vectors.md: LD A,(HL+). -/
theorem test_ld_a_hl_plus_wraps :
    let t := testRun (placeByte 0xFFFF 0x1F (setPair .hl 0xFFFF (testCode 0xC000 [0x2A])))
    (reg .a t, pair .hl t, t.cpu.pc, t.sched.now) = (0x1F, 0x0000, 0xC001, 8) := by decide

/-- Vector L14 of 95_test_vectors.md: LD (HL-),A. -/
theorem test_ld_hl_minus_bank_control :
    let t := testRun (setReg .a 0x01 (setPair .hl 0x0000 (testCode 0xC000 [0x32])))
    (pair .hl t, t.cpu.pc, t.sched.now, peek 0x0000 t) = (0xFFFF, 0xC001, 8, 0x00) := by decide

/-- Vector L18 of 95_test_vectors.md: LDH (a8),A. -/
theorem test_ldh_50_is_storage :
    let t := testRun (setReg .a 0x01 (testCode 0xC000 [0xE0, 0x50]))
    (t.cpu.pc, peek 0xFF50 t, t.sched.now) = (0xC002, 0x01, 12) := by decide

/-- Vector L19 of 95_test_vectors.md: LD A,(C). -/
theorem test_ld_a_high_page_c :
    let t := testRun (placeByte 0xFFFF 0x09 (setReg .c 0xFF (testCode 0xC000 [0xF2])))
    (reg .a t, t.cpu.pc, t.sched.now) = (0x09, 0xC001, 8) := by decide

/-- Vector L21 of 95_test_vectors.md: LD SP,d16. -/
theorem test_ld_sp_d16 :
    let t := testRun (testCode 0xC000 [0x31, 0xFE, 0xFF])
    (pair .sp t, t.cpu.pc, t.sched.now) = (0xFFFE, 0xC003, 12) := by decide

/-- Vector L24 of 95_test_vectors.md: LD (a16),SP. -/
theorem test_ld_a16_sp_wraps :
    let t := testRun (setPair .sp 0xABCD (testCode 0xC000 [0x08, 0xFF, 0xFF]))
    (t.cpu.pc, peek 0xFFFF t, t.sched.now) = (0xC003, 0xCD, 20) := by decide

/-- Vector L15 of 95_test_vectors.md: LD A,(a16). -/
theorem test_ld_a_a16 :
    let t := testRun (placeByte 0xC100 0x5E (testCode 0xC000 [0xFA, 0x00, 0xC1]))
    (reg .a t, t.cpu.pc, t.sched.now) = (0x5E, 0xC003, 16) := by decide

/-- Vector L25 of 95_test_vectors.md: LD SP,HL. -/
theorem test_ld_sp_hl :
    let t := testRun (setPair .hl 0xDFF0 (testCode 0xC000 [0xF9]))
    (pair .sp t, t.cpu.pc, t.sched.now) = (0xDFF0, 0xC001, 8) := by decide

/-- Vector M3 of 95_test_vectors.md: HALT. -/
theorem test_halt_source_nop :
    let t := testRun (sourceNop (testCode 0xC000 [0x76]))
    (t.cpu.pc, t.sched.now) = (0xC001, 4) := by decide

/-- Vector M4 of 95_test_vectors.md: STOP. -/
theorem test_stop_refused :
    let t := testRun (testCode 0xC000 [0x10, 0x00])
    (t.cpu.pc, t.sched.now, t.status) = (0xC002, 0, Status.refused 0x10) := by decide

/-- Vector M12 of 95_test_vectors.md: (no entry). -/
theorem test_no_entry_faults :
    let t := testRun (testCode 0xC000 [0xFD, 0x12, 0x34])
    (t.cpu.pc, t.sched.now, t.status) = (0xC001, 0, Status.faulted (.decodeError 0xC000 0xFD)) := by decide

/-- Vector A38 of 95_test_vectors.md: DAA. -/
theorem test_daa_source_nop :
    let t := testRun (sourceNop (setReg .a 0x42 (testCode 0xC000 [0x27])))
    (t.cpu.pc, t.sched.now) = (0xC001, 4) := by decide

/-- Vector M6 of 95_test_vectors.md: DI. -/
theorem test_di_refused :
    let t := testRun (testCode 0xC000 [0xF3])
    (t.cpu.pc, t.sched.now, t.status) = (0xC001, 0, Status.refused 0xF3) := by decide

/-- Vector M9 of 95_test_vectors.md: EI. -/
theorem test_ei_source_nop :
    let t := testRun (sourceNop (testCode 0xC000 [0xFB]))
    (t.cpu.pc, t.sched.now) = (0xC001, 4) := by decide

/-- Vector M1 of 95_test_vectors.md: NOP. -/
theorem test_nop :
    let t := testRun (testCode 0xC000 [0x00])
    (t.cpu.pc, t.sched.now) = (0xC001, 4) := by decide

/-! Boot overlay, banks and loading -/

/-- Vectors Y2 and Y3: the overlay's byte before, the cartridge's byte from the first read at PC = 0x0100 on. -/
theorem test_boot_unbind :
    let s := setMem { State.reset.mem with cells := cellsPut (cellsPut [] 0x10050 0xAA) 0x00050 0x55 } State.reset
    ((memRead 0x0050 (setPc 0x0040 s)).1, (memRead 0x0050 (setPc 0x0100 s)).1,
      (memRead 0x0050 (setPc 0x0100 s)).2.out) = (0xAA, 0x55, [.bootUnbound]) := by decide

/-- R900: a boot image of the wrong length, an image that is too short, a size code above 8. -/
theorem test_load_errors :
    (construct (some [0x00]) ⟨0, 0, 0, 0, 0, 0, 0, 0, 0, [], 0⟩ Config.default).isOk = false ∧
    (loadCartridge (some [0x00]) State.reset).isOk = false ∧ (loadCartridge none State.reset).isOk = false := by decide

/-- Example E7 of 95_test_vectors.md. -/
theorem test_scheduler_example :
    let s2 := tickSystem 5 (addEvent 10 7 State.reset)
    let s4 := processEvents (fun _ _ => []) (tickSystem 5 s2)
    (isEventPending s2, isEventPending (tickSystem 5 s2), s4.sched.queue, s4.out) =
      (false, true, [], [.eventFired 7 10 10]) := by decide

/-- A host: the callback of event 1 comes round every 100 cycles; that of event 2 adds an event due at once and selects
a bank; that of event 3 sets a breakpoint where it reads 0x12; any other does nothing. -/
def testHost : OnEvent := fun s id =>
  if id = 1 then [.addEvent 100 1]
  else if id = 2 then [.addEvent 0 7, .setBank .wram 0]
  else if id = 3 ∧ debugRead 0xC000 s = 0x12 then [.setCodeBp 0xC000 true]
  else []

/-- The reset machine at cycle `now` with a queue and one byte of RAM. -/
def testQueue (now : Nat) (q : List SchedEvent) (v : Byte) : State :=
  { placeByte 0xC000 v State.reset with sched := { now := now, queue := q } }

/-- R824: an event a callback adds that is due at once fires in the same loop; one that is not due stays. -/
theorem test_callback_event_in_same_loop :
    let t := pollLoop testHost 4 (testQueue 4 [⟨3, 2⟩, ⟨9, 4⟩] 0x00)
    (t.sched.queue, t.out) = ([⟨9, 4⟩], [.eventFired 2 3 4, .eventFired 7 4 4]) := by decide

/-- R826: a callback may add its own event again, without end; each loop of R824 still ends. -/
theorem test_recurring_event :
    let t := pollLoop testHost 4 (testQueue 5 [⟨5, 1⟩] 0x00)
    (t.sched.queue, isEventPending t, t.callbacks) = ([⟨105, 1⟩], false, 1) := by decide

/-- R826: a callback may act on what `debug_read` tells it. -/
theorem test_callback_reads :
    ((processEvents testHost (testQueue 0 [⟨0, 3⟩] 0x12)).dbg.codeBp,
      (processEvents testHost (testQueue 0 [⟨0, 3⟩] 0x13)).dbg.codeBp) = ([0xC000], []) := by decide

/-- R805: a recorded fault or refusal outlives `process_events` on an empty queue. -/
theorem test_status_is_kept :
    ([Status.refused 0x76, .faulted (.decodeError 0xC000 0xD3), .ok].map
      (fun v => (processEvents testHost (setStatus v State.reset)).status)) =
    [.refused 0x76, .faulted (.decodeError 0xC000 0xD3), .faulted .schedulerUnderflow] := by decide

/-- Example E6 of 95_test_vectors.md, its first step: NOP at 0x0100 unbinds the overlay and costs 4. -/
theorem test_nop_at_0100 :
    let t := testRun (setPc 0x0100 State.reset)
    (t.cpu.pc, t.sched.now, t.mem.bootBound, t.out) = (0x0101, 4, false, [.bootUnbound, .trace 0x0100 0x00 []]) := by decide

/-! States that meet the hypotheses of the statements -/

/-- A machine with four banks of each switchable RAM. -/
def banked : State := { State.reset with cfg := { State.reset.cfg with nEram := 4, nWram := 4 } }

/-- A memory in canonical form with one byte listed. -/
def oneCell : State := setMem { State.reset.mem with cells := [(0xC000, 0x12)] } State.reset

/-- An event that is due when the next step has ticked. -/
def busy : State := { testCode 0xC000 [0x00] with sched := { now := 0, queue := [⟨3, 1⟩, ⟨9, 2⟩] } }

theorem inv_of_reset_mem (s : State) (hm : s.mem = State.reset.mem) (hq : s.sched.queue = []) (hd : s.dbg = State.reset.dbg)
    (he : 0 < s.cfg.nEram) (hw : 0 < s.cfg.nWram) (hh : s.cpu.halted = false) (hs : s.cpu.stopped = false) :
    Machine.Inv s where
  cells := by rw [hm]; decide
  romBanks := by rw [hm]; decide
  romBank := by rw [hm]; decide
  eramBank := by rw [hm]; exact he
  wramBank := by rw [hm]; exact hw
  queue := by rw [hq]; exact .nil
  rdBp := by rw [hd]; exact .nil
  wrBp := by rw [hd]; exact .nil
  codeBp := by rw [hd]; exact .nil
  halted := hh
  stopped := hs

/-- ConstructedMachineState and LoadErrors: images of the two lengths that matter are accepted. -/
theorem witness_construct_and_load :
    ∃ s0 s, construct (some (List.replicate 256 0)) ⟨1, 0xFF, 2, 3, 4, 5, 6, 7, 0xFFFE, [(0x8000, 9)], 0x90⟩ Config.default
        = .ok s0 ∧ loadCartridge (some (List.replicate 0x4000 0)) s0 = .ok s := by
  have h1 : ∃ s0, construct (some (List.replicate 256 0))
      ⟨1, 0xFF, 2, 3, 4, 5, 6, 7, 0xFFFE, [(0x8000, 9)], 0x90⟩ Config.default = .ok s0 := by
    unfold construct
    simp only [List.length_replicate, if_true]
    exact ⟨_, rfl⟩
  have hc : (List.replicate 0x4000 (0 : Byte)).getD 0x0148 0 = 0 := by
    rw [List.getD_eq_getElem?_getD, List.getElem?_replicate_of_lt (by decide)]
    rfl
  have h2 : ∀ s0, ∃ s, loadCartridge (some (List.replicate 0x4000 0)) s0 = .ok s := by
    intro s0
    unfold loadCartridge
    simp only [List.length_replicate, hc, if_neg (Nat.lt_irrefl 0x4000),
      if_neg (show ¬8 < (0 : Byte).toNat by decide)]
    exact ⟨_, rfl⟩
  obtain ⟨s0, e1⟩ := h1
  obtain ⟨s, e2⟩ := h2 s0
  exact ⟨s0, s, e1, e2⟩

/-- ConstructedMachineState: the bounds of its clauses (a missing chunk, a whole one, the ends of the RAM keys). -/
theorem witness_construct_bounds :
    (0xFF < 0x100 ∧ 0x3FFF < 0x4000 ∧ 1 < 2 ^ (0 + 1)) ∧ ¬0x4000 * (1 + 1) ≤ 0x4000 ∧ 0x4000 * (1 + 1) ≤ 0x8000 ∧
    isRamKey 0x8000 = true ∧ isRamKey 0xFFFF = true ∧ isRamKey 0x3D000 = true ∧ isRamKey 0xE000 = false ∧
    isRamKey 0x7FFF = false := by decide

/-- LoadErrors: one image on each side of each bound. -/
theorem witness_load_errors :
    ([] : List Byte).length ≠ 256 ∧ (List.replicate 256 (0 : Byte)).length = 256 ∧
    (List.replicate 0x3FFF (0 : Byte)).length < 0x4000 ∧ 0x4000 ≤ (List.replicate 0x4000 (9 : Byte)).length ∧
    8 < ((List.replicate 0x4000 (9 : Byte)).getD 0x0148 0).toNat ∧
    ((List.replicate 0x4000 (8 : Byte)).getD 0x0148 0).toNat ≤ 8 := by
  simp only [List.length_replicate, List.getD_eq_getElem?_getD]
  rw [List.getElem?_replicate_of_lt (by decide), List.getElem?_replicate_of_lt (by decide)]
  decide

/-- RegionDecode: both ends of every row of the table, overlay bound and removed. -/
theorem witness_region_rows :
    let m := State.reset.mem
    let u := { m with bootBound := false }
    [backing m 0x0000, backing m 0x00FF, backing u 0x0000, backing u 0x00FF, backing m 0x0100, backing m 0x3FFF,
      backing m 0x4000, backing m 0x7FFF, backing m 0x8000, backing m 0x9FFF, backing m 0xA000, backing m 0xBFFF,
      backing m 0xC000, backing m 0xCFFF, backing m 0xD000, backing m 0xDFFF, backing m 0xE000, backing m 0xFDFF,
      backing m 0xFE00, backing m 0xFE9F, backing m 0xFEA0, backing m 0xFEFF, backing m 0xFF00, backing m 0xFFFF] =
    [some 0x10000, some 0x100FF, some 0x0000, some 0x00FF, some 0x0100, some 0x3FFF,
      some 0x14000, some 0x17FFF, some 0x8000, some 0x9FFF, some 0xA000, some 0xBFFF,
      some 0xC000, some 0xCFFF, some 0xD000, some 0xDFFF, none, none,
      some 0xFE00, some 0xFE9F, none, none, some 0xFF00, some 0xFFFF] := by decide

/-- ReadPort and OverlayIsRemovedOnce: a read that is due, and one that is not. -/
theorem witness_unbind_due :
    ((setPc 0x0100 State.reset).mem.bootBound = true ∧ (setPc 0x0100 State.reset).cpu.pc = 0x0100) ∧
    ¬(State.reset.mem.bootBound = true ∧ State.reset.cpu.pc = 0x0100) := by decide

/-- ReadPort and WritePort: the ends of the unmapped ranges. -/
theorem witness_unmapped : isUnmapped 0xE000 ∧ isUnmapped 0xFDFF ∧ isUnmapped 0xFEA0 ∧ isUnmapped 0xFEFF ∧
    ¬isUnmapped 0xDFFF ∧ ¬isUnmapped 0xFE00 ∧ ¬isUnmapped 0xFF00 := by unfold isUnmapped; decide

/-- ReadAfterWrite, WordAccess, StackPrimitives, PushThenPopRestores: canonical memory, and the ends of the stored
ranges. -/
theorem witness_stored :
    Memory.wf oneCell.mem.cells = true ∧ isStored 0x8000 ∧ isStored 0xDFFF ∧ isStored 0xFE00 ∧ isStored 0xFE9F ∧
    isStored 0xFF00 ∧ isStored 0xFFFF := by unfold isStored; decide

/-- ReadAfterWrite: the ends of the ranges that store nothing. -/
theorem witness_not_stored :
    ¬isStored 0x0000 ∧ ¬isStored 0x7FFF ∧ ¬isStored 0xE000 ∧ ¬isStored 0xFDFF ∧ ¬isStored 0xFEA0 ∧ ¬isStored 0xFEFF := by
  unfold isStored; decide

/-- WordAccess: a word whose two bytes are stored, at a region's edge. -/
theorem witness_word_access : Memory.wf oneCell.mem.cells = true ∧ isStored 0xDFFE ∧ isStored (0xDFFE + 1) := by
  unfold isStored; decide

/-- StackPrimitives and PushThenPopRestores: a stack at the top of memory. -/
theorem witness_stack :
    let s := setSp 0x0000 oneCell
    Memory.wf s.mem.cells = true ∧ isStored (s.cpu.sp - 1) ∧ isStored (s.cpu.sp - 2) := by unfold isStored; decide

/-- SetBankKeepsTheRange and BankIsolation: the invariant with several banks, a bank in range and one out of range. -/
theorem witness_banks : Machine.Inv banked ∧ (3 < banked.cfg.nWram ∧ 3 ≠ banked.mem.wramBank) ∧
    (3 < banked.cfg.nEram ∧ 3 ≠ banked.mem.eramBank) ∧ ¬4 < banked.cfg.nWram ∧
    (0xD000 ≤ (0xDFFF : Word).toNat ∧ (0xDFFF : Word).toNat ≤ 0xDFFF) ∧
    (0xA000 ≤ (0xA000 : Word).toNat ∧ (0xA000 : Word).toNat ≤ 0xBFFF) :=
  ⟨inv_of_reset_mem _ rfl rfl rfl (by decide) (by decide) rfl rfl, by decide, by decide, by decide, by decide, by decide⟩

/-- DecodeEncodeRoundTrip and EncodeOfDecoded. -/
theorem witness_round_trip : (Instr.callNzA16 0x1234).wellFormed = true ∧
    decode [0xC4, 0x34, 0x12, 0x00] = .ok (.callNzA16 0x1234, [0x00]) := by decide

/-- StepRunsTheDecodedInstruction: running, at a one-byte, a three-byte and a CB instruction. -/
theorem witness_running :
    (Running State.reset ∧ decode (codeAt State.reset) = .ok (.nop, [0x00, 0x00])) ∧
    (Running (testCode 0xC000 [0xC3, 0x50, 0x01]) ∧
      decode (codeAt (testCode 0xC000 [0xC3, 0x50, 0x01])) = .ok (.jpA16 0x0150, [])) ∧
    (Running (testCode 0xFFFE [0xCB, 0x37]) ∧
      (decode (codeAt (testCode 0xFFFE [0xCB, 0x37]))) = .ok (.swapA, [0x00])) := by
  unfold Running; decide

/-- StepExistsExactlyWhileRunning: a state for each of its clauses. -/
theorem witness_no_step :
    step (setStatus (.faulted (.decodeError 0xC000 0xD3)) State.reset) = .fault (.decodeError 0xC000 0xD3) ∧
    step (setStatus (.faulted .schedulerUnderflow) State.reset) = .fault .schedulerUnderflow ∧
    step (setStatus (.refused 0x76) State.reset) = .refused (.unimplemented 0x76) ∧
    step { State.reset with cpu := { State.reset.cpu with halted := true } } = .fault .halted ∧
    step { State.reset with cpu := { State.reset.cpu with stopped := true } } = .fault .stopped :=
  ⟨rfl, rfl, rfl, rfl, rfl⟩

/-- Whether a step answers a next state. -/
def testSteps (s : State) : Bool :=
  match step s with
  | .next _ => true
  | .fault _ => false
  | .refused _ => false

theorem step_eq_testRun (s : State) (h : testSteps s = true) : step s = .next (testRun s) := by
  unfold testSteps at h
  unfold testRun
  split at h
  · rename_i t e; rw [e]
  · cases h
  · cases h

/-- StepKeepsTheInvariant, RomIsReadOnly, NoEventIsDueAfterAStep, StatusAfterAStep: a step from a state that meets the
invariant, and that completes. -/
theorem witness_step : Machine.Inv State.reset ∧ step State.reset = .next (testRun State.reset) ∧
    (testRun State.reset).status = .ok :=
  ⟨inv_of_reset_mem _ rfl rfl rfl (by decide) (by decide) rfl rfl, step_eq_testRun _ (by decide), by decide⟩

/-- NoEventIsDueAfterAStep with an event that is due after the tick: the step completes, whatever the host does. -/
theorem witness_busy_step : isEventPending (tickSystem 4 busy) = true ∧ ∃ t, step busy = .next t ∧ t.status = .ok :=
  ⟨by decide, _, rfl, (portKeeps_poll _).status⟩

/-- NoEventIsDueAfterAStep: hosts under which the loop ends, one that does nothing and one that never stops acting. -/
theorem witness_hosts : (∃ h : PollingHost, h.onEvent = fun _ _ => []) ∧
    ∀ (_ : State) (id d id' : Nat), HostCall.addEvent d id' ∈ [HostCall.addEvent 100 id] → 0 < d := by
  refine ⟨⟨.silent, rfl⟩, fun _ id d id' h => ?_⟩
  simp only [List.mem_cons, HostCall.addEvent.injEq, List.not_mem_nil, or_false] at h
  omega

/-- RomIsReadOnly: the ends of the ROM and boot keys. -/
theorem witness_rom_keys : isRomKey 0x0000 ∧ isRomKey 0x7FFF ∧ isRomKey 0x10000 ∧ isRomKey 0x17FFF ∧ ¬isRomKey 0x8000 := by
  unfold isRomKey; decide

/-- OverlayIsRemovedOnce: a step at PC = 0x0100, and one elsewhere. -/
theorem witness_overlay_step :
    step (setPc 0x0100 State.reset) = .next (testRun (setPc 0x0100 State.reset)) ∧
    step (testCode 0xC000 [0x00]) = .next (testRun (testCode 0xC000 [0x00])) ∧
    (testCode 0xC000 [0x00]).mem.bootBound = false :=
  ⟨step_eq_testRun _ (by decide), step_eq_testRun _ (by decide), by decide⟩

/-- ClockChargesTheCost: a taken branch, and a step that ends in a fault. -/
theorem witness_clock :
    let s := testCode 0xC000 [0x20, 0xFC]
    let u := testCode 0xC000 [0xD3]
    (decode (codeAt s) = .ok (.jrNzE8 0xFC, [0x00]) ∧ step s = .next (testRun s) ∧ (testRun s).status = .ok ∧
      (testRun s).cpu.taken = true) ∧
    (decode (codeAt u) = .ok (.noEntryD3, [0x00, 0x00]) ∧ step u = .next (testRun u) ∧ (testRun u).status ≠ .ok) :=
  ⟨⟨by decide, step_eq_testRun _ (by decide), by decide, by decide⟩,
    by decide, step_eq_testRun _ (by decide), by decide⟩

/-- AbnormalStepsAreFinal: a stopped machine. -/
theorem witness_stopped : (setStatus (.refused 0x76) State.reset).status ≠ .ok ∧
    ∃ t, loadCartridge (some (List.replicate 0x4000 0)) (setStatus (.refused 0x76) State.reset) = .ok t := by
  refine ⟨by decide, ?_⟩
  have hc : (List.replicate 0x4000 (0 : Byte)).getD 0x0148 0 = 0 := by
    rw [List.getD_eq_getElem?_getD, List.getElem?_replicate_of_lt (by decide)]
    rfl
  unfold loadCartridge
  simp only [List.length_replicate, hc, if_neg (Nat.lt_irrefl 0x4000), if_neg (show ¬8 < (0 : Byte).toNat by decide)]
  exact ⟨_, rfl⟩

/-- AbnormalStepsAreFinal: an opcode without an entry, and a placeholder under `Refuse`. -/
theorem witness_abnormal :
    (Running (testCode 0xC000 [0xFD]) ∧
      decode (codeAt (testCode 0xC000 [0xFD])) = .ok (.noEntryFD, [0x00, 0x00]) ∧ (.noEntryFD, 0xFD) ∈ noEntryOpcodes) ∧
    (Running (testCode 0xC000 [0x10, 0x3C]) ∧
      decode (codeAt (testCode 0xC000 [0x10, 0x3C])) = .ok (.stop 0x3C, [0x00]) ∧
      (.stop 0x3C, 0x10, 2) ∈ placeholderOpcodes 0x3C ∧
      (testCode 0xC000 [0x10, 0x3C]).cfg.placeholderMode = .refuse) := by
  unfold Running; decide

/-- CostTable: an instruction with two costs, a placeholder, a cost no configuration row overrides, and a step that ends
in a refusal. -/
theorem witness_costs : (defaultCost (opcode (.ofRet .nz))).1 ≠ (defaultCost (opcode (.ofRet .nz))).2 ∧
    (.halt, 0x76, 1) ∈ placeholderOpcodes 0x00 ∧ (∀ r ∈ Config.default.costs, r.op ≠ 0x76) ∧
    (testRun (testCode 0xC000 [0x76])).status ≠ .ok := by decide

/-- HooksInOrder: an instruction of each kind, and a completed one. -/
theorem witness_hooks : State.reset.status = .ok ∧ Instr.ofCall .nz 0x1234 ≠ .callA16 0x1234 ∧
    (∀ cc, Instr.nop ≠ .ofRet cc) ∧ (∀ t, Instr.nop ≠ .ofRst t) := by
  refine ⟨rfl, by decide, fun cc => ?_, fun t => ?_⟩
  · cases cc <;> decide
  · cases t <;> decide

/-- HostPorts and ProcessEventsFiresOne: a sorted queue with two events of the same trigger, and an empty one. -/
theorem witness_queues :
    ([⟨3, 1⟩, ⟨3, 2⟩, ⟨9, 1⟩] : List SchedEvent).Pairwise (fun x y => x.trigger ≤ y.trigger) ∧
    State.reset.sched = { now := 0, queue := [] } ∧ testHost State.reset 4 = [] ∧
    (processEvents testHost State.reset).status = .faulted .schedulerUnderflow := by decide

/-- CallbacksUseHostPortsOnly: a callback in a state that meets the invariant. -/
theorem witness_callback : Machine.Inv State.reset ∧
    (runCallback testHost 2 State.reset).sched.queue = [⟨0, 7⟩] ∧ (runCallback testHost 2 State.reset).callbacks = 1 :=
  ⟨inv_of_reset_mem _ rfl rfl rfl (by decide) (by decide) rfl rfl, by decide, rfl⟩

/-- Placeholders: each row, in both modes. -/
theorem witness_placeholders :
    (.daa, 0x27, 1) ∈ placeholderOpcodes 0 ∧ (.halt, 0x76, 1) ∈ placeholderOpcodes 0 ∧
    (.stop 0xFF, 0x10, 2) ∈ placeholderOpcodes 0xFF ∧ (.di, 0xF3, 1) ∈ placeholderOpcodes 0 ∧
    (.ei, 0xFB, 1) ∈ placeholderOpcodes 0 ∧ (sourceNop State.reset).cfg.placeholderMode = .sourceNop ∧
    State.reset.cfg.placeholderMode = .refuse := by decide

/-- Jumps, CallsAndRestarts and Returns: each condition holds somewhere and fails somewhere. -/
theorem witness_conditions :
    let f := setFlags ⟨true, false, false, true⟩ State.reset
    (condHolds .nz State.reset, condHolds .z f, condHolds .nc State.reset, condHolds .c f) = (true, true, true, true) ∧
    (condHolds .nz f, condHolds .z State.reset, condHolds .nc f, condHolds .c State.reset) = (false, false, false, false) ∧
    State.reset.cpu.taken = false := by decide

/-- NoEntryOpcodes. -/
theorem witness_no_entry : (.noEntryD3, 0xD3) ∈ noEntryOpcodes ∧ noEntryOpcodes.length = 11 := by decide

/-- MemoryFrame, RegisterFrame, FlagFrame and EngineFrame: a store, with an address and a backing byte outside it. -/
theorem witness_frames :
    let s := setSp 0xDFFE State.reset
    (Instr.pushBc ≠ .cbPrefix ∧ exec .pushBc s = .next (pushQQ .bc s)) ∧ storedTo .pushBc s = [0xDFFD, 0xDFFC] ∧
    0xDFFE ∉ storedTo .pushBc s ∧ Reg8.b ∉ destRegs .pushBc ∧ movesSp .nop = false ∧
    Instr.pushBc.isNoEntry = false :=
  ⟨⟨by decide, rfl⟩, by decide, by decide, by decide, rfl, rfl⟩

/-- EngineFrame: an instruction that is no placeholder, whatever the byte. -/
theorem witness_engine_frame : ∀ n, ∀ x ∈ placeholderOpcodes n, Instr.nop ≠ x.1 := by
  intro n x hx
  simp only [placeholderOpcodes, List.mem_cons, List.not_mem_nil, or_false] at hx
  rcases hx with rfl | rfl | rfl | rfl | rfl <;> simp

end Sys2Proof.Tests
end

section
/-! PROOFS. The machine state (10_state.md): the registers and their pairs (R102), the flag register (R103, R104), and
every value after construction and `load_cartridge` (R120). -/

open Sys2Proof Sys2Proof.Machine

namespace Sys2Proof.Machine

/-! Registers and pairs (R101, R102) -/

theorem pair_bc_toNat (s : State) : (pair .bc s).toNat = 256 * (reg .b s).toNat + (reg .c s).toNat := joinBytes_toNat _ _
theorem pair_de_toNat (s : State) : (pair .de s).toNat = 256 * (reg .d s).toNat + (reg .e s).toNat := joinBytes_toNat _ _
theorem pair_hl_toNat (s : State) : (pair .hl s).toNat = 256 * (reg .h s).toNat + (reg .l s).toNat := joinBytes_toNat _ _

theorem setPair_bc_eq (v : Word) (s : State) :
    setPair .bc v s = { s with cpu := { s.cpu with b := hiByte v, c := loByte v } } := rfl
theorem setPair_de_eq (v : Word) (s : State) :
    setPair .de v s = { s with cpu := { s.cpu with d := hiByte v, e := loByte v } } := rfl
theorem setPair_hl_eq (v : Word) (s : State) :
    setPair .hl v s = { s with cpu := { s.cpu with h := hiByte v, l := loByte v } } := rfl

/-- A pair written and read back gives the value written, unless it is AF (R102). -/
theorem pair_setPair_same (p : Reg16) (v : Word) (s : State) (hp : p ≠ .af) : pair p (setPair p v s) = v := by
  cases p with
  | af => exact absurd rfl hp
  | bc => exact pair_setPair_bc v s
  | de => exact pair_setPair_de v s
  | hl => exact pair_setPair_hl v s
  | sp => exact pair_setPair_sp v s
  | pc => exact pair_setPair_pc v s

/-! The flag register (R103, R104) -/

/-- Bits 7 to 4 of F are the flags, and its low nibble is 0 (R103). -/
theorem flagsToByte_layout (f : Flags) :
    (flagsToByte f).getLsbD 7 = f.z ∧ (flagsToByte f).getLsbD 6 = f.n ∧ (flagsToByte f).getLsbD 5 = f.h ∧
    (flagsToByte f).getLsbD 4 = f.c ∧ flagsToByte f &&& 0x0F = 0 := by
  obtain ⟨z, n, h, c⟩ := f
  revert z n h c
  decide

theorem pair_af_toNat (s : State) :
    (pair .af s).toNat = 256 * (reg .a s).toNat + (flagsToByte s.cpu.flags).toNat := joinBytes_toNat _ _

theorem setPair_af_eq (v : Word) (s : State) :
    setPair .af v s = { s with cpu := { s.cpu with a := hiByte v, flags := flagsOfByte (loByte v) } } := rfl

theorem hiByte_and (v w : Word) : hiByte (v &&& w) = hiByte v &&& hiByte w := BitVec.extractLsb'_and
theorem loByte_and (v w : Word) : loByte (v &&& w) = loByte v &&& loByte w := BitVec.extractLsb'_and

/-- Clearing bits 3:0 of a word clears them in its low byte. -/
theorem joinBytes_and_lowNibble (v : Word) : joinBytes (hiByte v) (loByte v &&& 0xF0) = v &&& 0xFFF0 := by
  have hhi : hiByte (v &&& 0xFFF0) = hiByte v := by
    rw [hiByte_and, show hiByte 0xFFF0 = BitVec.allOnes 8 by decide, BitVec.and_allOnes]
  have hlo : loByte (v &&& 0xFFF0) = loByte v &&& 0xF0 := by
    rw [loByte_and, show loByte 0xFFF0 = 0xF0 by decide]
  rw [← joinBytes_hiByte_loByte (v &&& 0xFFF0), hhi, hlo]

theorem getFlag_setFlag (f g : Flag) (v : Bool) (s : State) :
    getFlag g (setFlag f v s) = if g = f then v else getFlag g s := by
  cases f <;> cases g <;> rfl

/-- A write of one flag writes the flag record only (R104). -/
theorem setFlag_eq_setFlags (f : Flag) (v : Bool) (s : State) : ∃ fs, setFlag f v s = setFlags fs s := by
  cases f <;> exact ⟨_, rfl⟩

/-! Blocks of storage -/

/-- A block reads back byte by byte. -/
theorem cellsGet_cellsPutList_getD (vs : List Byte) (m : Cells) (key j : Nat) (hm : Memory.wf m = true)
    (hj : j < vs.length) : cellsGet (cellsPutList m key vs) (key + j) = vs.getD j 0 := by
  rw [cellsGet_cellsPutList_mem vs m key j hm hj, List.getD_eq_getElem _ _ hj]

/-! Construction (R900, R232) -/

theorem Memory.wf_ramCells (init : Cells) : Memory.wf (ramCells init) = true := by
  induction init with
  | nil => rfl
  | cons x rest ih =>
    unfold ramCells
    split
    · exact Memory.wf_cellsPut _ _ _ ih
    · exact ih

/-- Construction takes over `RAM_INIT` at every RAM key; of two entries for a key the first counts, in both. -/
theorem cellsGet_ramCells (init : Cells) (key : Nat) (hkey : isRamKey key = true) :
    cellsGet (ramCells init) key = cellsGet init key := by
  induction init with
  | nil => rfl
  | cons x rest ih =>
    obtain ⟨k, v⟩ := x
    rw [cellsGet_cons, ramCells]
    by_cases hk : k = key
    · subst hk
      rw [if_pos hkey, if_pos rfl, cellsGet_cellsPut_same _ _ _ none (Memory.wf_ramCells rest)]
    · rw [if_neg hk, ← ih]
      split
      · exact cellsGet_cellsPut_ne _ _ _ _ (Ne.symm hk)
      · rfl

/-- The storage `construct` sets up: `RAM_INIT`, then `LY_INIT`, then the boot image (R900). -/
def constructedCells (boot : List Byte) (p : InitParams) : Cells :=
  cellsPutList (cellsPut (ramCells p.ramInit) (cellKey 0 0xFF44) p.lyInit) (cellKey 1 0x0000) boot

/-- The machine `construct` sets up from a boot image of the right length (R900, R120). -/
def constructed (boot : List Byte) (p : InitParams) (cfg : Config) : State where
  cpu := { a := p.a, flags := flagsOfByte p.f, b := p.b, c := p.c, d := p.d, e := p.e, h := p.h, l := p.l,
           sp := p.sp, pc := 0x0000, halted := false, stopped := false, taken := false }
  mem := { cells := constructedCells boot p, romBanks := 2, romBank := 1, eramBank := 0, wramBank := 0,
           bootBound := true, bankState := .none }
  sched := { now := 0, queue := [] }
  dbg := { rdBp := [], wrBp := [], codeBp := [] }
  status := .ok
  cfg := cfg
  out := []
  callbacks := 0
  ties := 0

theorem construct_some (boot : List Byte) (p : InitParams) (cfg : Config) : construct (some boot) p cfg =
    if boot.length = 256 then .ok (constructed boot p cfg) else .error .badBootImage := rfl

theorem eq_constructed_of_ok {boot : List Byte} {p : InitParams} {cfg : Config} {s0 : State}
    (h : construct (some boot) p cfg = .ok s0) : boot.length = 256 ∧ s0 = constructed boot p cfg := by
  rw [construct_some] at h
  split at h
  · exact ⟨‹_›, (Except.ok.inj h).symm⟩
  · cases h

theorem Memory.wf_lyInit (p : InitParams) :
    Memory.wf (cellsPut (ramCells p.ramInit) (cellKey 0 0xFF44) p.lyInit) = true :=
  Memory.wf_cellsPut _ _ _ (Memory.wf_ramCells _)

theorem Memory.wf_constructedCells (boot : List Byte) (p : InitParams) :
    Memory.wf (constructedCells boot p) = true :=
  Memory.wf_cellsPutList _ _ _ (Memory.wf_lyInit p)

theorem cellsGet_constructedCells_boot (boot : List Byte) (p : InitParams) (j : Nat) (hj : j < boot.length) :
    cellsGet (constructedCells boot p) (0x10000 + j) = boot.getD j 0 :=
  cellsGet_cellsPutList_getD boot _ _ j (Memory.wf_lyInit p) hj

/-- Outside the 256 bytes of the boot image nothing but `RAM_INIT` and `LY_INIT` is stored. -/
theorem cellsGet_constructedCells_outside {boot : List Byte} (p : InitParams) (key : Nat) (hboot : boot.length = 256)
    (hkey : 0x8000 ≤ key % 0x10000) :
    cellsGet (constructedCells boot p) key =
      cellsGet (cellsPut (ramCells p.ramInit) (cellKey 0 0xFF44) p.lyInit) key := by
  have hstart : cellKey 1 0x0000 = 0x10000 := rfl
  exact cellsGet_cellsPutList_ne boot _ _ key (by omega)

theorem cellsGet_constructedCells_ly {boot : List Byte} (p : InitParams) (hboot : boot.length = 256) :
    cellsGet (constructedCells boot p) 0xFF44 = p.lyInit := by
  rw [cellsGet_constructedCells_outside p _ hboot (by decide)]
  exact cellsGet_cellsPut_same _ (cellKey 0 0xFF44) _ none (Memory.wf_ramCells _)

theorem isRamKey_high {key : Nat} (h : isRamKey key = true) : 0x8000 ≤ key % 0x10000 := by
  simp only [isRamKey, Bool.and_eq_true, decide_eq_true_eq] at h
  obtain ⟨⟨hhigh, _⟩, _⟩ := h
  exact hhigh

theorem cellsGet_constructedCells_ram {boot : List Byte} (p : InitParams) (key : Nat) (hboot : boot.length = 256)
    (hkey : isRamKey key = true) (hly : key ≠ 0xFF44) :
    cellsGet (constructedCells boot p) key = cellsGet p.ramInit key := by
  rw [cellsGet_constructedCells_outside p _ hboot (isRamKey_high hkey), cellsGet_cellsPut_ne _ (cellKey 0 0xFF44) _ _ hly,
    cellsGet_ramCells _ _ hkey]

/-! The chunks of a cartridge (R230) -/

theorem romChunk_length (img : List Byte) (k : Nat) : (romChunk img k).length = 0x4000 := by
  unfold romChunk
  split
  · rw [List.length_take, List.length_drop]; omega
  · exact List.length_replicate

/-- A chunk byte by byte: the image's byte, or 0xFF where the image does not hold the whole chunk (R230). -/
theorem romChunk_getD (img : List Byte) (k j : Nat) (hj : j < 0x4000) :
    (romChunk img k).getD j 0 = if 0x4000 * (k + 1) ≤ img.length then img.getD (0x4000 * k + j) 0 else 0xFF := by
  unfold romChunk
  split
  · rw [List.getD_eq_getElem?_getD, List.getElem?_take_of_lt hj, List.getElem?_drop, List.getD_eq_getElem?_getD]
  · exact List.getD_replicate _ hj

theorem cellKey_chunk (k : Nat) : cellKey k 0x4000 = k * 0x10000 + 0x4000 := rfl

theorem Memory.wf_loadChunks (img : List Byte) (n : Nat) (m : Cells) (hm : Memory.wf m = true) :
    Memory.wf (loadChunks img n m) = true := by
  induction n with
  | zero => exact hm
  | succ n ih => exact Memory.wf_cellsPutList _ _ _ ih

/-- The chunks go to the window 0x4000–0x7FFF of their banks and nowhere else. -/
theorem cellsGet_loadChunks_outside (img : List Byte) (n : Nat) (m : Cells) (key : Nat)
    (hkey : key % 0x10000 < 0x4000 ∨ 0x8000 ≤ key % 0x10000) : cellsGet (loadChunks img n m) key = cellsGet m key := by
  induction n with
  | zero => rfl
  | succ n ih =>
    rw [loadChunks, cellsGet_cellsPutList_ne _ _ _ _ (by rw [cellKey_chunk, romChunk_length]; omega), ih]

/-- Bank `k` of the window reads as chunk `k`, whichever chunks are loaded after it. -/
theorem cellsGet_loadChunks_bank (img : List Byte) (n : Nat) (m : Cells) (k j : Nat) (hm : Memory.wf m = true)
    (hk : 1 ≤ k) (hn : k ≤ n) (hj : j < 0x4000) :
    cellsGet (loadChunks img n m) (k * 0x10000 + 0x4000 + j) = (romChunk img k).getD j 0 := by
  induction n with
  | zero => omega
  | succ n ih =>
    rw [loadChunks]
    by_cases hlast : k = n + 1
    · subst hlast
      exact cellsGet_cellsPutList_getD _ _ _ j (Memory.wf_loadChunks img n m hm) (by rw [romChunk_length]; exact hj)
    · rw [cellsGet_cellsPutList_ne _ _ _ _ (by rw [cellKey_chunk]; omega), ih (by omega)]

/-! `load_cartridge` (R230) -/

/-- `ROM_BANKS` of an image (R230). -/
def imageBanks (img : List Byte) : Nat := 2 ^ ((img.getD 0x0148 0).toNat + 1)

/-- The storage after `load_cartridge`: `rom0`, then the chunks. -/
def loadedCells (img : List Byte) (m : Cells) : Cells :=
  loadChunks img (imageBanks img - 1) (cellsPutList m (cellKey 0 0x0000) (img.take 0x4000))

/-- The bus after `load_cartridge`. -/
def loadedBus (img : List Byte) (m : Bus) : Bus :=
  { m with cells := loadedCells img m.cells, romBanks := imageBanks img, romBank := 1, bootBound := true }

theorem loadCartridge_some (img : List Byte) (s : State) : loadCartridge (some img) s =
    if img.length < 0x4000 then .error .tooShort
    else if 8 < (img.getD 0x0148 0).toNat then .error .badRomSizeCode
    else .ok (setMem (loadedBus img s.mem) s) := rfl

/-- A load that succeeds changes the bus only. -/
theorem eq_loaded_of_ok {img : List Byte} {s0 s : State} (h : loadCartridge (some img) s0 = .ok s) :
    0x4000 ≤ img.length ∧ (img.getD 0x0148 0).toNat ≤ 8 ∧ s = setMem (loadedBus img s0.mem) s0 := by
  rw [loadCartridge_some] at h
  split at h
  · cases h
  · split at h
    · cases h
    · exact ⟨by omega, by omega, (Except.ok.inj h).symm⟩

theorem rom0_length {img : List Byte} (himg : 0x4000 ≤ img.length) : (img.take 0x4000).length = 0x4000 := by
  rw [List.length_take]; omega

theorem cellsGet_loadedCells_rom0 {img : List Byte} {m : Cells} (j : Nat) (himg : 0x4000 ≤ img.length)
    (hm : Memory.wf m = true) (hj : j < 0x4000) : cellsGet (loadedCells img m) j = img.getD j 0 := by
  have hblock := cellsGet_cellsPutList_getD (img.take 0x4000) m 0 j hm (by rw [rom0_length himg]; exact hj)
  rw [Nat.zero_add] at hblock
  rw [loadedCells, cellsGet_loadChunks_outside _ _ _ _ (by omega)]
  refine hblock.trans ?_
  rw [List.getD_eq_getElem?_getD, List.getElem?_take_of_lt hj, List.getD_eq_getElem?_getD]

theorem cellsGet_loadedCells_romx {img : List Byte} {m : Cells} (k j : Nat) (hm : Memory.wf m = true) (hk : 1 ≤ k)
    (hbanks : k < imageBanks img) (hj : j < 0x4000) :
    cellsGet (loadedCells img m) (k * 0x10000 + 0x4000 + j) =
      if 0x4000 * (k + 1) ≤ img.length then img.getD (0x4000 * k + j) 0 else 0xFF := by
  rw [loadedCells, cellsGet_loadChunks_bank _ _ _ _ _ (Memory.wf_cellsPutList _ _ _ hm) hk (by omega) hj,
    romChunk_getD _ _ _ hj]

/-- Loading keeps every byte outside the two ROM windows. -/
theorem cellsGet_loadedCells_outside {img : List Byte} (m : Cells) (key : Nat) (himg : 0x4000 ≤ img.length)
    (hrom0 : 0x4000 ≤ key) (hkey : key % 0x10000 < 0x4000 ∨ 0x8000 ≤ key % 0x10000) :
    cellsGet (loadedCells img m) key = cellsGet m key := by
  have hstart : cellKey 0 0x0000 = 0 := rfl
  have hlen := rom0_length himg
  rw [loadedCells, cellsGet_loadChunks_outside _ _ _ _ hkey, cellsGet_cellsPutList_ne _ _ _ _ (by omega)]

end Sys2Proof.Machine

/-- Settles O5: the pairs are their two halves joined, and a write reaches the named register only. -/
theorem registerAliasing : Obligations.RegisterAliasing := by
  unfold Obligations.RegisterAliasing
  refine ⟨fun s => ⟨pair_bc_toNat s, pair_de_toNat s, pair_hl_toNat s⟩, fun v s => ⟨?halves, ?readback⟩,
    fun r v s => ⟨reg_setReg_same r v s, fun r' hr => reg_setReg_ne r r' v s hr, setReg_cpu_flags r v s,
      setReg_cpu_sp r v s, setReg_cpu_pc r v s⟩⟩
  case halves =>
    exact ⟨hiByte v, loByte v, hiByte_toNat v, loByte_toNat v, setPair_bc_eq v s, setPair_de_eq v s, setPair_hl_eq v s⟩
  case readback => exact fun p hp => pair_setPair_same p v s hp

/-- Settles O6: F is its four flags, read and written through the byte layout of R103. -/
theorem flagRegisterLayout : Obligations.FlagRegisterLayout := by
  unfold Obligations.FlagRegisterLayout
  refine ⟨fun s => ?layout, flagsToByte_flagsOfByte, fun v s => ⟨?readback, _, setPair_af_eq v s⟩,
    fun f g v s => ⟨getFlag_setFlag f g v s, setFlag_eq_setFlags f v s⟩⟩
  case layout =>
    obtain ⟨hz, hn, hh, hc, hlow⟩ := flagsToByte_layout s.cpu.flags
    exact ⟨hz, hn, hh, hc, hlow, pair_af_toNat s⟩
  case readback => rw [pair_setPair_af, joinBytes_and_lowNibble]

/-- Settles O1: loading writes the ROM windows over what construction stored, and neither reaches the other's bytes. -/
theorem constructedMachineState : Obligations.ConstructedMachineState := by
  unfold Obligations.ConstructedMachineState
  intro boot img p cfg s0 s hconstruct hload
  obtain ⟨hboot, rfl⟩ := eq_constructed_of_ok hconstruct
  obtain ⟨himg, hcode, rfl⟩ := eq_loaded_of_ok hload
  have hwf := Memory.wf_constructedCells boot p
  refine ⟨⟨hboot, himg, hcode⟩, rfl, rfl, rfl, rfl, rfl, ⟨rfl, rfl, rfl, rfl, rfl, rfl⟩, fun j hj => ?boot,
    fun j hj => cellsGet_loadedCells_rom0 j himg hwf hj,
    fun k j hk hbanks hj => cellsGet_loadedCells_romx k j hwf hk hbanks hj, ?ly, fun key hkey hne => ?ram⟩
  case boot =>
    exact (cellsGet_loadedCells_outside _ _ himg (by omega) (by omega)).trans
      (cellsGet_constructedCells_boot boot p j (by omega))
  case ly =>
    exact (cellsGet_loadedCells_outside _ _ himg (by decide) (by decide)).trans (cellsGet_constructedCells_ly p hboot)
  case ram =>
    have hhigh := isRamKey_high hkey
    exact (cellsGet_loadedCells_outside _ _ himg (by omega) (.inr hhigh)).trans
      (cellsGet_constructedCells_ram p key hboot hkey hne)

end

section
/-! PROOFS. Memory (20_memory.md): the address decoder (R201), the read and write ports (R210, R215), 16-bit accesses
(R240, R241), bank switching (R225 to R227), and the read-only windows (R216). -/

open Sys2Proof Sys2Proof.Machine

namespace Sys2Proof.Machine

/-! The address decoder (R201) -/

/-- The bank a row of the region table resolves to, `none` where it is unmapped (R201). -/
def Region.bank (m : Bus) : Region → Option Nat
  | .overlay => some (if m.bootBound then 1 else 0)
  | .romx => some m.romBank
  | .eram => some m.eramBank
  | .wramx => some m.wramBank
  | .echo | .unused => none
  | .rom0 | .vram | .wram0 | .oam | .io | .hram | .ie => some 0

/-- The decoder is the region's bank joined with the address. -/
theorem backing_eq_bank (m : Bus) (a : Word) : backing m a = ((regionOf a).bank m).map (cellKey · a) := by
  unfold backing
  cases regionOf a <;> rfl

/-- The backing byte of an address between the ends of a row. -/
theorem backing_row (m : Bus) (r : Region) {a : Word} (hlo : r.ends.1 ≤ a.toNat) (hhi : a.toNat ≤ r.ends.2) :
    backing m a = (r.bank m).map (cellKey · a) := by
  rw [backing_eq_bank, regionOf_eq a r hlo hhi]

/-- I/O, HRAM and IE together: from 0xFF00 up, bank 0. -/
theorem backing_top (m : Bus) {a : Word} (h : 0xFF00 ≤ a.toNat) : backing m a = some (cellKey 0 a) := by
  have hlt := a.isLt
  by_cases hio : a.toNat ≤ 0xFF7F
  · exact backing_row m .io h hio
  · by_cases hhram : a.toNat ≤ 0xFFFE
    · exact backing_row m .hram (Nat.lt_of_not_le hio) hhram
    · exact backing_row m .ie (Nat.lt_of_not_le hhram) (Nat.le_of_lt_succ hlt)

theorem backing_unmapped (m : Bus) {a : Word} (h : isUnmapped a) : backing m a = none := by
  obtain ⟨hlo, hhi⟩ | ⟨hlo, hhi⟩ := h
  · exact backing_row m .echo hlo hhi
  · exact backing_row m .unused hlo hhi

theorem cellKey_inj {b b' : Nat} {a a' : Word} (h : cellKey b a = cellKey b' a') : b = b' ∧ a = a' := by
  have haddr : a.toNat = a'.toNat := by rw [← cellKey_mod b a, h, cellKey_mod]
  refine ⟨?_, BitVec.eq_of_toNat_eq haddr⟩
  unfold cellKey at h
  omega

/-! The read port (R210, R213) -/

/-- A breakpoint event is emitted exactly for a listed address (R831). -/
theorem emitIf_contains (l : List Nat) (n : Nat) (e : OutEvent) (s : State) :
    emitIf (l.contains n) e s = if n ∈ l then emit e s else s := by
  simp [emitIf]

theorem unbindIfDue_of_not_due {s : State} (h : ¬(s.mem.bootBound = true ∧ s.cpu.pc = 0x0100)) : unbindIfDue s = s :=
  if_neg h

theorem readEffect_eq (a : Word) (s : State) :
    readEffect a s = if a.toNat ∈ s.dbg.rdBp then emit (.readBreakpoint a) (unbindIfDue s) else unbindIfDue s :=
  emitIf_contains _ _ _ _

/-- An unmapped address reads the sentinel (R212). -/
theorem peek_unmapped {a : Word} (s : State) (h : isUnmapped a) : peek a s = sentinel := by
  unfold peek busPeek
  rw [backing_unmapped s.mem h]

theorem fetchByte_eq (s : State) :
    fetchByte s = ((memRead s.cpu.pc s).1, setPc (s.cpu.pc + 1) (memRead s.cpu.pc s).2) := by
  simp [fetchByte]

/-- A read changes nothing that is read above the overlay's window. -/
theorem peek_readEffect (a b : Word) (s : State) (h : 0x0100 ≤ b.toNat) : peek b (readEffect a s) = peek b s := by
  rw [← peek_unbindIfDue b s h]
  unfold peek
  rw [readEffect_mem]

/-! The write port (R215) -/

/-- A store changes the stored bytes and nothing else of the memory subsystem. -/
theorem busStore_eq (m : Bus) (a : Word) (v : Byte) : busStore m a v = { m with cells := (busStore m a v).cells } := by
  unfold busStore
  split <;> rfl

theorem storeByte_eq (a : Word) (v : Byte) (s : State) :
    storeByte a v s = { s with mem := { s.mem with
      cells := if a.toNat ≤ 0x7FFF then s.mem.cells else (busStore s.mem a v).cells } } := by
  unfold storeByte
  split
  · exact bankControlWrite_eq a v s
  · rw [← busStore_eq]; rfl

/-- All that a write does: the stored bytes, then its events in order (R215, R218, R831). -/
theorem memWrite_eq (a : Word) (v : Byte) (s : State) :
    memWrite a v s = { s with
      mem := { s.mem with cells := if a.toNat ≤ 0x7FFF then s.mem.cells else (busStore s.mem a v).cells }
      out := s.out ++ (if s.cfg.diagAddr = some a then [.diagChar v] else []) ++
        (if a.toNat ∈ s.dbg.wrBp then [.writeBreakpoint a v] else []) } := by
  simp [memWrite, emitIf_eq, storeByte_eq]

theorem memWrite_mem_of_unmapped {a : Word} (v : Byte) (s : State) (h : isUnmapped a) :
    (memWrite a v s).mem = s.mem := by
  rw [memWrite_mem, busStore, backing_unmapped s.mem h]
  exact ite_self _

/-! 16-bit accesses (R240, R241) -/

/-- The low byte of a stored word is at the lower address (R235). -/
theorem peek_write16_low (a v : Word) (s : State) (hwf : Memory.wf s.mem.cells = true) (ha : isStored a) :
    peek a (write16 a v s) = loByte v := by
  have hne : a ≠ a + 1 := by bv_omega
  rw [write16, peek_memWrite_ne _ _ _ _ hne, peek_memWrite_same _ _ _ ha hwf]

theorem peek_write16_high (a v : Word) (s : State) (hwf : Memory.wf s.mem.cells = true) (ha : isStored (a + 1)) :
    peek (a + 1) (write16 a v s) = hiByte v :=
  peek_memWrite_same _ _ _ ha (wf_memWrite _ _ _ hwf)

theorem isStored_above_overlay {a : Word} (h : isStored a) : 0x0100 ≤ a.toNat := by
  unfold isStored at h
  omega

/-- Above the overlay's window a 16-bit read is the two bytes the addresses hold. -/
theorem read16_fst (a : Word) (s : State) (ha : 0x0100 ≤ a.toNat) (ha' : 0x0100 ≤ (a + 1).toNat) :
    (read16 a s).1 = joinBytes (peek (a + 1) s) (peek a s) := by
  simp only [read16, memRead_fst, memRead_snd, peek_unbindIfDue _ _ ha, peek_unbindIfDue _ _ ha',
    peek_readEffect _ _ _ ha']

/-! Switchable regions (R114, R225 to R227) -/

/-- The row of the region table a switchable region shows a bank of. -/
def BankRegion.row : BankRegion → Region
  | .rom => .romx
  | .eram => .eram
  | .wram => .wramx

/-- The selector of a switchable region (R114). -/
def BankRegion.selected : BankRegion → Bus → Nat
  | .rom, m => m.romBank
  | .eram, m => m.eramBank
  | .wram, m => m.wramBank

/-- The bus with another bank selected. -/
def BankRegion.select : BankRegion → Nat → Bus → Bus
  | .rom, k, m => { m with romBank := k }
  | .eram, k, m => { m with eramBank := k }
  | .wram, k, m => { m with wramBank := k }

/-- The selections `set_bank` takes (R226). -/
def BankRegion.InRange : BankRegion → Nat → State → Prop
  | .rom, k, s => 1 ≤ k ∧ k + 1 ≤ s.mem.romBanks
  | .eram, k, s => k < s.cfg.nEram
  | .wram, k, s => k < s.cfg.nWram

section
variable {region : BankRegion} {k : Nat} {s : State}

theorem setBank_of_inRange (h : region.InRange k s) : setBank region k s = setMem (region.select k s.mem) s := by
  cases region <;> exact if_pos h

theorem setBank_of_not_inRange (h : ¬region.InRange k s) : setBank region k s = s := by
  cases region <;> exact if_neg h

/-- The invariant keeps every selector in range (R114). -/
theorem inRange_selected (region : BankRegion) (hinv : Inv s) : region.InRange (region.selected s.mem) s := by
  cases region with
  | rom => exact hinv.romBank
  | eram => exact hinv.eramBank
  | wram => exact hinv.wramBank

theorem selected_memWrite (region : BankRegion) (a : Word) (v : Byte) (s : State) :
    region.selected (memWrite a v s).mem = region.selected s.mem := by
  obtain ⟨-, hrom, heram, hwram, -⟩ := memWrite_selectors a v s
  cases region with
  | rom => exact hrom
  | eram => exact heram
  | wram => exact hwram

/-- Switching away and back restores the machine. -/
theorem setBank_setBank_selected (h : region.InRange (region.selected s.mem) s) :
    setBank region (region.selected s.mem) (setBank region k s) = s := by
  by_cases hk : region.InRange k s
  · have hback : region.InRange (region.selected s.mem) (setMem (region.select k s.mem) s) := by
      cases region <;> exact h
    rw [setBank_of_inRange hk, setBank_of_inRange hback]
    cases region <;> rfl
  · rw [setBank_of_not_inRange hk, setBank_of_inRange h]
    cases region <;> rfl

/-- An address in a switchable region is backed by the selected bank. -/
theorem backing_selected (region : BankRegion) (m : Bus) {a : Word} (hlo : region.row.ends.1 ≤ a.toNat)
    (hhi : a.toNat ≤ region.row.ends.2) : backing m a = some (cellKey (region.selected m) a) := by
  rw [backing_row m region.row hlo hhi]
  cases region <;> rfl

/-- With another bank selected, no address is backed by the byte that backed `a`. -/
theorem backing_select_ne (m : Bus) {a b : Word} {key : Nat} (hlo : region.row.ends.1 ≤ a.toNat)
    (hhi : a.toNat ≤ region.row.ends.2) (hk : k ≠ region.selected m) (hb : backing (region.select k m) b = some key) :
    backing m a ≠ some key := by
  intro ha
  obtain rfl := backing_inj _ _ _ _ _ ha hb
  rw [backing_selected region _ hlo hhi, Option.some.injEq] at ha hb
  obtain ⟨hbank, -⟩ := cellKey_inj (hb.trans ha.symm)
  exact hk (by rw [← hbank]; cases region <;> rfl)

/-- With another bank selected, a write is not seen at an address that its byte does not back there. -/
theorem peek_select_memWrite (region : BankRegion) (k : Nat) (a b : Word) (v : Byte) (s : State)
    (h : ∀ key, backing (region.select k s.mem) b = some key → backing s.mem a ≠ some key) :
    busPeek (region.select k (memWrite a v s).mem) b = busPeek (region.select k s.mem) b := by
  have hbus : region.select k (memWrite a v s).mem =
      { region.select k s.mem with cells := (memWrite a v s).mem.cells } := by
    rw [memWrite_eq]
    cases region <;> rfl
  have hcells : (region.select k s.mem).cells = s.mem.cells := by cases region <;> rfl
  rw [hbus]
  unfold busPeek
  rw [backing_cells]
  split
  · rename_i key hkey
    rw [hcells]
    exact cellsGet_memWrite_ne a v s key (h key hkey)
  · rfl

/-- A byte written through one bank of a switchable region is in no other bank, at no address (R227). -/
theorem peek_setBank_memWrite {a : Word} (b : Word) (v : Byte) (hlo : region.row.ends.1 ≤ a.toNat)
    (hhi : a.toNat ≤ region.row.ends.2) (hk : k ≠ region.selected s.mem) (hrange : region.InRange k s) :
    peek b (setBank region k (memWrite a v s)) = peek b (setBank region k s) := by
  have hrange' : region.InRange k (memWrite a v s) := by
    rw [memWrite_eq]
    cases region <;> exact hrange
  rw [setBank_of_inRange hrange, setBank_of_inRange hrange']
  exact peek_select_memWrite region k a b v s fun _ => backing_select_ne s.mem hlo hhi hk

/-- A stored byte of a switchable region reads back after any switch away and back (R227). -/
theorem peek_setBank_back (region : BankRegion) (k : Nat) {a : Word} (v : Byte) (hinv : Inv s) (ha : isStored a) :
    peek a (setBank region (region.selected s.mem) (setBank region k (memWrite a v s))) = v := by
  have hrange := inRange_selected region ((keeps_memWrite a v s).inv hinv)
  rw [← selected_memWrite region a v s, setBank_setBank_selected hrange]
  exact peek_memWrite_same a v s ha hinv.cells

end

/-! The read-only windows (R216) -/

/-- The end of a step stores nothing, callbacks included, and keeps the bank count. -/
theorem complete_mem (a0 : Word) (f : Fetched) (s : State) :
    (complete a0 f s).mem.cells = s.mem.cells ∧ (complete a0 f s).mem.romBanks = s.mem.romBanks := by
  unfold complete
  split
  · have hpoll := portKeeps_poll (tickSystem (costOf s.cfg f.op s.cpu.taken) (stepHooks a0 f s))
    have hhooks : (stepHooks a0 f s).mem = s.mem := by rw [stepHooks_eq]
    rw [hpoll.cells, hpoll.romBanks, tickSystem, setSched_mem, hhooks]
    exact ⟨rfl, rfl⟩
  · exact ⟨rfl, rfl⟩
  · exact ⟨rfl, rfl⟩

theorem step_keeps_rom {s t : State} (h : step s = .next t) :
    (∀ k, isRomKey k → cellsGet t.mem.cells k = cellsGet s.mem.cells k) ∧ t.mem.romBanks = s.mem.romBanks := by
  obtain ⟨-, u, hexec, rfl⟩ := step_cases h
  have hkeeps := keeps_fetch_exec hexec
  obtain ⟨hcells, hbanks⟩ := complete_mem s.cpu.pc (fetchInstr (setTaken false s)) u
  exact ⟨fun k hk => by rw [hcells, hkeeps.rom k hk], by rw [hbanks, hkeeps.romBanks]⟩

end Sys2Proof.Machine

/-- Settles O7: each clause is a row of the region table, and a key determines its bank and its address. -/
theorem regionDecode : Obligations.RegionDecode := by
  unfold Obligations.RegionDecode
  refine ⟨fun m a => ⟨fun h => ?overlay, fun h h' => backing_row m .rom0 h h', fun h h' => backing_row m .romx h h',
    fun h h' => backing_row m .vram h h', fun h h' => backing_row m .eram h h', fun h h' => backing_row m .wram0 h h',
    fun h h' => backing_row m .wramx h h', fun h h' => backing_row m .echo h h', fun h h' => backing_row m .oam h h',
    fun h h' => backing_row m .unused h h', fun h => backing_top m h⟩, fun _ _ _ _ h => cellKey_inj h⟩
  case overlay => exact backing_row m .overlay (Nat.zero_le _) h

/-- Settles O8: a read is the unbind, the byte the address then holds, and the breakpoint's event. -/
theorem readPort : Obligations.ReadPort := by
  unfold Obligations.ReadPort
  intro a s due s1 v
  refine ⟨Prod.ext rfl (readEffect_eq a s), rfl, fun hdue => ?debug, fun h => peek_unmapped _ h, ?cells, fetchByte_eq s⟩
  case debug => rw [memRead_fst, unbindIfDue_of_not_due hdue, debugRead]
  case cells => rw [memRead_snd, readEffect_mem, unbindIfDue_cells]

/-- Settles O9: the equation of the write port, with the store written out by the decoder's answer. -/
theorem writePort : Obligations.WritePort := by
  unfold Obligations.WritePort
  intro a v s
  refine ⟨?_, memWrite_mem_of_unmapped v s⟩
  rw [memWrite_eq, busStore]
  cases backing s.mem a <;> rfl

/-- Settles O11: both accesses are their two byte accesses, and stored bytes read back as the halves of the word. -/
theorem wordAccess : Obligations.WordAccess := by
  unfold Obligations.WordAccess
  intro a v s
  refine ⟨⟨joinBytes_toNat _ _, rfl⟩, ⟨loByte v, hiByte v, loByte_toNat v, hiByte_toNat v, rfl⟩, fun hwf ha ha' => ?_⟩
  have hlow := peek_write16_low a v s hwf ha
  have hhigh := peek_write16_high a v s hwf ha'
  refine ⟨by rw [hlow, loByte_toNat], by rw [hhigh, hiByte_toNat], ?_⟩
  rw [read16_fst a _ (isStored_above_overlay ha) (isStored_above_overlay ha'), hlow, hhigh, joinBytes_hiByte_loByte]

/-- Settles O13: another selection names other keys, and the same selection the same machine. -/
theorem bankIsolation : Obligations.BankIsolation := by
  unfold Obligations.BankIsolation
  intro a b v k s hinv
  refine ⟨fun hlo hhi => ⟨?wram, peek_setBank_memWrite (region := .wram) b v hlo hhi⟩,
    fun hlo hhi => ⟨?eram, peek_setBank_memWrite (region := .eram) b v hlo hhi⟩⟩
  case wram => exact peek_setBank_back .wram k v hinv (by unfold isStored; omega)
  case eram => exact peek_setBank_back .eram k v hinv (by unfold isStored; omega)

/-- Settles O21: a store above 0x7FFF reaches no ROM key, and the end of a step stores nothing. -/
theorem romIsReadOnly : Obligations.RomIsReadOnly :=
  ⟨cellsGet_memWrite_rom, fun _ _ => step_keeps_rom⟩

/-- Settles O12: each selector's range, in the complementary form, and the invariant through `portKeeps_setBank`. -/
theorem setBankKeepsTheRange : Obligations.SetBankKeepsTheRange := by
  unfold Obligations.SetBankKeepsTheRange
  intro k s
  refine ⟨?rom, ?eram, ?wram, fun hinv region => (portKeeps_setBank region k s).inv hinv⟩
  case rom =>
    split
    · exact setBank_of_not_inRange (region := .rom) (by unfold BankRegion.InRange; omega)
    · exact setBank_of_inRange (region := .rom) (by unfold BankRegion.InRange; omega)
  case eram =>
    split
    · exact setBank_of_not_inRange (region := .eram) (Nat.not_lt.mpr ‹_›)
    · exact setBank_of_inRange (region := .eram) (Nat.lt_of_not_le ‹_›)
  case wram =>
    split
    · exact setBank_of_not_inRange (region := .wram) (Nat.not_lt.mpr ‹_›)
    · exact setBank_of_inRange (region := .wram) (Nat.lt_of_not_le ‹_›)

end

section
/-! PROOFS. Encoding (30_encoding.md): the row of the opcode table each opcode byte decodes to (R315 to R317, R322), the
hooks of a step in order (R323), when a step exists (R324), the jumps (R605 to R609), and the opcodes without an entry
(R801). -/

open Sys2Proof Sys2Proof.Machine

namespace Sys2Proof

/-! The primary map and the CB map (R315, R316) -/

/-- What a row of the opcode table says of an instruction's encoding. -/
structure TableRow where
  op : Nat
  imms : List Byte
  noEntry : Bool

def Instr.tableRow (i : Instr) : TableRow := ⟨opcode i, immBytes i, i.isNoEntry⟩

/-- The opcode numbers without an entry (R317). -/
def noEntryNumbers : List Nat := [0xD3, 0xDB, 0xDD, 0xE3, 0xE4, 0xEB, 0xEC, 0xED, 0xF4, 0xFC, 0xFD]

/-- The row of the primary opcode `op` with the immediates `imms`. -/
def mainTableRow (op : Nat) (imms : List Byte) : TableRow := ⟨op, imms, decide (op ∈ noEntryNumbers)⟩

/-- The instruction of an entry with the immediate `n` or `nn`; 0xCB has none of its own (R706). -/
def Entry.instr? (n : Byte) (nn : Word) : Entry → Option Instr
  | .p0 i => some i
  | .p1 f => some (f n)
  | .p2 f => some (f nn)
  | .cb => none

/-- The immediate bytes of that instruction (R321). -/
def Entry.imms? (n : Byte) (nn : Word) : Entry → Option (List Byte)
  | .p0 _ => some []
  | .p1 _ => some [n]
  | .p2 _ => some [loByte nn, hiByte nn]
  | .cb => none

/-- Row by row and column by column, every entry of the primary map stands at its own opcode. -/
theorem mainTable_tableRow (n : Byte) (nn : Word) : ∀ x ∈ mainTable.zipIdx, ∀ y ∈ x.1.zipIdx,
    (y.1.instr? n nn).map Instr.tableRow = (y.1.imms? n nn).map (mainTableRow (16 * x.2 + y.2)) := by
  simp only [← List.map_inj_left]
  rfl

theorem mk_getD_mem_zipIdx {α : Type} (l : List α) (k : Nat) (d : α) (h : k < l.length) :
    (l.getD k d, k) ∈ l.zipIdx := by
  rw [List.mk_mem_zipIdx_iff_getElem?, List.getD_eq_getElem _ _ h, List.getElem?_eq_getElem h]

theorem length_mainTable_getD : ∀ r < 16, (mainTable.getD r []).length = 16 := by decide

theorem mainEntry_tableRow (op n : Byte) (nn : Word) :
    ((mainEntry op).instr? n nn).map Instr.tableRow = ((mainEntry op).imms? n nn).map (mainTableRow op.toNat) := by
  have hrow : op.toNat / 16 < 16 := by omega
  have hcol : op.toNat % 16 < (mainTable.getD (op.toNat / 16) []).length := by
    rw [length_mainTable_getD _ hrow]
    omega
  have h := mainTable_tableRow n nn _ (mk_getD_mem_zipIdx mainTable _ [] hrow) _
    (mk_getD_mem_zipIdx _ _ (.p0 .nop) hcol)
  rwa [Nat.div_add_mod] at h

section
variable {op : Byte}

theorem tableRow_of_p0 {i : Instr} (h : mainEntry op = .p0 i) : i.tableRow = mainTableRow op.toNat [] := by
  simpa [h, Entry.instr?, Entry.imms?] using mainEntry_tableRow op 0 0

theorem tableRow_of_p1 {f : Byte → Instr} (h : mainEntry op = .p1 f) (n : Byte) :
    (f n).tableRow = mainTableRow op.toNat [n] := by
  simpa [h, Entry.instr?, Entry.imms?] using mainEntry_tableRow op n 0

theorem tableRow_of_p2 {f : Word → Instr} (h : mainEntry op = .p2 f) (lo hi : Byte) :
    (f (joinBytes hi lo)).tableRow = mainTableRow op.toNat [lo, hi] := by
  simpa [h, Entry.instr?, Entry.imms?] using mainEntry_tableRow op 0 (joinBytes hi lo)

end

/-- Every byte of the CB map has an entry, with no immediates (R316). -/
theorem cbEntry_tableRow (op2 : Byte) : (cbEntry op2).tableRow = ⟨0xCB00 + op2.toNat, [], false⟩ := by
  have h : ∀ b : Byte, opcode (cbEntry b) = 0xCB00 + b.toNat ∧ immBytes (cbEntry b) = [] ∧
      (cbEntry b).isNoEntry = false := by decide
  obtain ⟨hop, himms, hnoEntry⟩ := h op2
  rw [Instr.tableRow, hop, himms, hnoEntry]

/-! The length of an instruction (R322) -/

/-- The bytes the decoder consumes for an entry, the opcode byte included. -/
def Entry.size : Entry → Nat
  | .p0 _ => 1
  | .p1 _ => 2
  | .p2 _ => 3
  | .cb => 2

theorem size_of_mem_noEntryNumbers : ∀ op : Byte, op.toNat ∈ noEntryNumbers → (mainEntry op).size = 1 := by decide

/-- With two bytes after it every opcode byte decodes, and consumes the size of its entry. -/
theorem decode_three (op b1 b2 : Byte) : ∃ i, decode [op, b1, b2] = .ok (i, [op, b1, b2].drop (mainEntry op).size) ∧
    i.isNoEntry = decide (op.toNat ∈ noEntryNumbers) := by
  simp only [decode]
  cases h : mainEntry op with
  | p0 i => exact ⟨_, rfl, congrArg TableRow.noEntry (tableRow_of_p0 h)⟩
  | p1 f => exact ⟨_, rfl, congrArg TableRow.noEntry (tableRow_of_p1 h b1)⟩
  | p2 f => exact ⟨_, rfl, congrArg TableRow.noEntry (tableRow_of_p2 h b1 b2)⟩
  | cb =>
    have hop : op.toNat ∉ noEntryNumbers := fun hmem => by
      simpa [h, Entry.size] using size_of_mem_noEntryNumbers op hmem
    exact ⟨_, rfl, (congrArg TableRow.noEntry (cbEntry_tableRow b1)).trans (decide_eq_false hop).symm⟩

namespace Machine

/-! Fetch and hooks (R320, R323) -/

theorem fetchInstr_tableRow (s : State) :
    ∃ noEntry, (fetchInstr s).instr.tableRow = ⟨(fetchInstr s).op, (fetchInstr s).imms, noEntry⟩ := by
  simp only [fetchInstr]
  cases h : mainEntry (fetchByte s).1 with
  | p0 i => exact ⟨_, tableRow_of_p0 h⟩
  | p1 f => exact ⟨_, tableRow_of_p1 h _⟩
  | p2 f => exact ⟨_, tableRow_of_p2 h _ _⟩
  | cb => exact ⟨_, cbEntry_tableRow _⟩

/-- What was fetched is the opcode and the immediate bytes of the instruction. -/
theorem fetchInstr_encoding (s : State) :
    (fetchInstr s).op = opcode (fetchInstr s).instr ∧ (fetchInstr s).imms = immBytes (fetchInstr s).instr := by
  obtain ⟨_, h⟩ := fetchInstr_tableRow s
  exact ⟨congrArg TableRow.op h.symm, congrArg TableRow.imms h.symm⟩

/-- The event of hook (1): a call or a return, the conditional forms only when taken. -/
def controlEvents (a0 : Word) (i : Instr) (s : State) : List OutEvent :=
  match hookKind i with
  | .none => []
  | .call => [.callEntered a0 s.cpu.pc]
  | .callCond => if s.cpu.taken then [.callEntered a0 s.cpu.pc] else []
  | .ret => [.returned a0 s.cpu.pc]
  | .retCond => if s.cpu.taken then [.returned a0 s.cpu.pc] else []

theorem controlHook_eq (a0 : Word) (i : Instr) (s : State) :
    controlHook a0 i s = { s with out := s.out ++ controlEvents a0 i s } := by
  unfold controlHook controlEvents
  cases hookKind i with
  | none => simp
  | call => rfl
  | callCond => exact emitIf_eq _ _ _
  | ret => rfl
  | retCond => exact emitIf_eq _ _ _

/-- The hooks append their events in order and change nothing else. -/
theorem stepHooks_eq_append (a0 : Word) (f : Fetched) (s : State) :
    stepHooks a0 f s = { s with out := s.out ++ controlEvents a0 f.instr s ++ [.trace a0 f.op f.imms] ++
      (if a0.toNat ∈ s.dbg.codeBp then [.codeBreakpoint a0 f.op f.imms] else []) } := by
  simp [stepHooks, controlHook_eq, emitIf_eq, emit]

theorem hookKind_ofCall (cc : Cond) (nn : Word) : hookKind (.ofCall cc nn) = .callCond := by cases cc <;> rfl
theorem hookKind_ofRet (cc : Cond) : hookKind (.ofRet cc) = .retCond := by cases cc <;> rfl
theorem hookKind_ofRst (t : Rst) : hookKind (.ofRst t) = .call := by cases t <;> rfl

/-- Calls, restarts and returns are the only instructions with a control hook. -/
theorem hookKind_eq_none {i : Instr} (hcall : ∀ nn, i ≠ .callA16 nn) (hrst : ∀ t, i ≠ .ofRst t)
    (hcallcc : ∀ cc nn, i ≠ .ofCall cc nn) (hret : i ≠ .ret) (hreti : i ≠ .reti)
    (hretcc : ∀ cc, i ≠ .ofRet cc) : hookKind i = .none := by
  cases i with
  | ret => exact (hret rfl).elim
  | reti => exact (hreti rfl).elim
  | retNz => exact (hretcc .nz rfl).elim
  | retZ => exact (hretcc .z rfl).elim
  | retNc => exact (hretcc .nc rfl).elim
  | retC => exact (hretcc .c rfl).elim
  | callA16 nn => exact (hcall nn rfl).elim
  | callNzA16 nn => exact (hcallcc .nz nn rfl).elim
  | callZA16 nn => exact (hcallcc .z nn rfl).elim
  | callNcA16 nn => exact (hcallcc .nc nn rfl).elim
  | callCA16 nn => exact (hcallcc .c nn rfl).elim
  | rst00 => exact (hrst .t00 rfl).elim
  | rst08 => exact (hrst .t08 rfl).elim
  | rst10 => exact (hrst .t10 rfl).elim
  | rst18 => exact (hrst .t18 rfl).elim
  | rst20 => exact (hrst .t20 rfl).elim
  | rst28 => exact (hrst .t28 rfl).elim
  | rst30 => exact (hrst .t30 rfl).elim
  | rst38 => exact (hrst .t38 rfl).elim
  | _ => rfl

/-! The step (R320, R324) -/

theorem complete_of_ok (a0 : Word) (f : Fetched) {s : State} (h : s.status = .ok) :
    complete a0 f s = poll (tickSystem (costOf s.cfg f.op s.cpu.taken) (stepHooks a0 f s)) := by
  simp only [complete, h]

/-- The engine never stops inside an instruction: its faults and refusals are recorded in the next state. -/
theorem runInstr_next (s : State) : ∃ t, runInstr s = .next t := by
  obtain ⟨u, hu, -⟩ := exec_next_keeps (fetchInstr (setTaken false s)).instr (fetchInstr (setTaken false s)).state
  exact ⟨complete s.cpu.pc (fetchInstr (setTaken false s)) u, by simp only [runInstr, hu]⟩

theorem steps_iff_running (s : State) : Steps s ↔ Running s := by
  obtain ⟨t, ht⟩ := runInstr_next s
  constructor
  · rintro ⟨u, hu⟩
    exact ((step_eq_next_iff s u).mp hu).1
  · exact fun hr => ⟨t, (step_eq_next_iff s t).mpr ⟨hr, ht⟩⟩

/-- A recorded fault is what every later step answers (R112). -/
theorem step_of_faulted {s : State} {f : FaultRecord} (h : s.status = .faulted f) : step s = .fault (faultOf f) := by
  simp only [step, h]

/-! Jumps (R602, R605 to R609) -/

/-- JR adds the displacement as a signed number, modulo 65536 (R608). -/
theorem jumpRel_eq (n : Byte) (s : State) :
    jumpRel n s = { s with cpu := { s.cpu with pc := BitVec.ofInt 16 ((s.cpu.pc.toNat : Int) + n.toInt) } } := by
  have hpc : s.cpu.pc + sext16 n = BitVec.ofInt 16 ((s.cpu.pc.toNat : Int) + n.toInt) := by
    rw [BitVec.ofInt_add, BitVec.ofInt_natCast, BitVec.ofNat_toNat, BitVec.setWidth_eq]
    rfl
  rw [← hpc]
  rfl

theorem condHolds_iff (s : State) :
    (condHolds .nz s = true ↔ getFlag .z s = false) ∧ (condHolds .z s = true ↔ getFlag .z s = true) ∧
    (condHolds .nc s = true ↔ getFlag .c s = false) ∧ (condHolds .c s = true ↔ getFlag .c s = true) := by
  simp [condHolds, getFlag]

theorem exec_ofJp (cc : Cond) (nn : Word) (s : State) : exec (.ofJp cc nn) s = .next (ifCond cc (setPc nn) s) := by
  cases cc <;> rfl

theorem exec_ofJr (cc : Cond) (n : Byte) (s : State) : exec (.ofJr cc n) s = .next (ifCond cc (jumpRel n) s) := by
  cases cc <;> rfl

theorem decodes_ofJp (cc : Cond) (nn : Word) :
    Decodes [opByte (0xC2 + 8 * condCode cc), loByte nn, hiByte nn] (.ofJp cc nn) := by
  cases cc with
  | nz => exact Laws.RoundTrip.jpNzA16 nn rfl
  | z => exact Laws.RoundTrip.jpZA16 nn rfl
  | nc => exact Laws.RoundTrip.jpNcA16 nn rfl
  | c => exact Laws.RoundTrip.jpCA16 nn rfl

theorem decodes_ofJr (cc : Cond) (n : Byte) : Decodes [opByte (0x20 + 8 * condCode cc), n] (.ofJr cc n) := by
  cases cc with
  | nz => exact Laws.RoundTrip.jrNzE8 n rfl
  | z => exact Laws.RoundTrip.jrZE8 n rfl
  | nc => exact Laws.RoundTrip.jrNcE8 n rfl
  | c => exact Laws.RoundTrip.jrCE8 n rfl

/-! The opcodes without an entry (R317, R801) -/

theorem noEntryOpcodes_spec : ∀ x ∈ noEntryOpcodes,
    mainEntry x.2 = .p0 x.1 ∧ ∀ s, exec x.1 s = .next (raiseDecodeError x.2 s) := by
  intro x hx
  fin_cases hx <;> exact ⟨rfl, fun _ => rfl⟩

end Machine
end Sys2Proof

/-- Settles O16: the decoder consumes the size of the opcode's entry, and the lists of lengths and of opcodes
without an entry are checked against the map, byte by byte. -/
theorem instructionLength : Obligations.InstructionLength := by
  unfold Obligations.InstructionLength
  intro op b1 b2
  obtain ⟨i, hdecode, hnoEntry⟩ := decode_three op b1 b2
  refine ⟨i, hdecode.trans (congrArg (fun k => Except.ok (i, [op, b1, b2].drop k)) ?size), ?noEntry⟩
  case size =>
    clear hdecode hnoEntry
    revert op
    decide
  case noEntry =>
    rw [hnoEntry, decide_eq_true_iff]
    clear hdecode hnoEntry
    revert op
    decide

/-- Settles O19: an instruction always answers a next state, so the guards of `step` alone decide whether a step
exists. -/
theorem stepExistsExactlyWhileRunning : Obligations.StepExistsExactlyWhileRunning := by
  unfold Obligations.StepExistsExactlyWhileRunning
  intro s
  refine ⟨steps_iff_running s, fun _ _ => step_of_faulted, step_of_faulted, fun op hop => ?refused,
    fun hok hh => ?halted, fun hok hh hs => ?stopped⟩
  case refused => simp only [step, hop]
  case halted => simp [step, hok, hh]
  case stopped => simp [step, hok, hh, hs]

/-- Settles O28: what was fetched is its row of the table, and the hooks are the list of their events. -/
theorem hooksInOrder : Obligations.HooksInOrder := by
  unfold Obligations.HooksInOrder
  refine ⟨fetchInstr_encoding, fun a0 f s => complete_of_ok a0 f, fun a0 f s => ⟨controlEvents a0 f.instr s,
    stepHooks_eq_append a0 f s, ?call, ?rst, ?callCond, ?ret, ?retCond, ?others⟩⟩
  case call =>
    intro nn hi
    rw [controlEvents, hi]
    rfl
  case rst =>
    intro t hi
    rw [controlEvents, hi, hookKind_ofRst]
  case callCond =>
    intro cc nn hi
    rw [controlEvents, hi, hookKind_ofCall]
  case ret =>
    rintro (hi | hi) <;> rw [controlEvents, hi] <;> rfl
  case retCond =>
    intro cc hi
    rw [controlEvents, hi, hookKind_ofRet]
  case others =>
    intro hcall hrst hcallcc hret hreti hretcc
    rw [controlEvents, hookKind_eq_none hcall hrst hcallcc hret hreti hretcc]

/-- Settles O45: a conditional form is `ifCond` of the unconditional one, and the displacement is added as a signed
number. -/
theorem jumps : Obligations.Jumps := by
  unfold Obligations.Jumps
  refine ⟨condHolds_iff, fun nn n s => ⟨Laws.RoundTrip.jpA16 nn rfl, rfl, Laws.RoundTrip.jpHl rfl, rfl,
    Laws.RoundTrip.jrE8 n rfl, congrArg _ (jumpRel_eq n s), fun cc => ⟨decodes_ofJp cc nn, exec_ofJp cc nn s⟩,
    fun cc => ⟨decodes_ofJr cc n, ?jr⟩⟩⟩
  case jr =>
    rw [exec_ofJr, ifCond, jumpRel_eq]
    rfl

/-- Settles O56: each of the eleven is the entry of its opcode and raises its DecodeError (`noEntryOpcodes`
is the model's list of them, so the theorem has a longer name). -/
theorem noEntryOpcodes_raise : Obligations.NoEntryOpcodes := by
  unfold Obligations.NoEntryOpcodes
  refine ⟨fun op2 => congrArg TableRow.noEntry (cbEntry_tableRow op2), fun i op hmem => ?_⟩
  obtain ⟨hentry, hexec⟩ := noEntryOpcodes_spec _ hmem
  exact ⟨fun rest => by simp [decode, hentry], hexec⟩

end

section
/-! PROOFS. 8-bit arithmetic and logic (40_alu8.md): the ALU operations on `A` (R400 to R408), INC and DEC (R410, R411),
and CPL, SCF and CCF (R415 to R417). -/

open Sys2Proof Sys2Proof.Machine

namespace Sys2Proof.Machine

/-! Operands (R13) -/

@[simp] theorem readR8_cpu (r : R8) (s : State) : (readR8 r s).2.cpu = s.cpu := by
  cases r with
  | reg x => rfl
  | mhl => exact readEffect_cpu _ s

@[simp] theorem reg_readR8 (x : Reg8) (r : R8) (s : State) : reg x (readR8 r s).2 = reg x s :=
  reg_congr x s _ (readR8_cpu r s)

@[simp] theorem getFlag_readR8 (f : Flag) (r : R8) (s : State) : getFlag f (readR8 r s).2 = getFlag f s := by
  cases f <;> simp only [getFlag, readR8_cpu]

@[simp] theorem writeR8_cpu_flags (r : R8) (v : Byte) (s : State) : (writeR8 r v s).cpu.flags = s.cpu.flags := by
  cases r with
  | reg x => exact setReg_cpu_flags x v s
  | mhl => exact congrArg Cpu.flags (memWrite_cpu _ v s)

/-! Byte results on numbers (R401 to R404, R410, R411, R415) -/

theorem addByte_eq_ofNat (a b : Byte) (c : Bool) :
    addByte a b c = BitVec.ofNat 8 ((a.toNat + b.toNat + c.toNat) % 256) := by
  apply BitVec.eq_of_toNat_eq
  simp only [addByte, BitVec.toNat_ofNat]
  omega

theorem subByte_eq_ofNat (a b : Byte) (c : Bool) :
    subByte a b c = BitVec.ofNat 8 (((a.toNat : Int) - b.toNat - c.toNat) % 256).toNat := by
  apply BitVec.eq_of_toNat_eq
  simp only [subByte, BitVec.toNat_ofInt, BitVec.toNat_ofNat]
  omega

theorem add_one_eq_ofNat (v : Byte) : v + 1 = BitVec.ofNat 8 ((v.toNat + 1) % 256) := by bv_omega

theorem sub_one_eq_ofNat (v : Byte) : v - 1 = BitVec.ofNat 8 ((v.toNat + 255) % 256) := by bv_omega

theorem not_eq_ofNat (v : Byte) : ~~~v = BitVec.ofNat 8 (255 - v.toNat) := by bv_omega

/-! The ALU operations (R400 to R408) -/

/-- `A` and the flags after `a + b + c` (R401, R402). -/
def addOutcome (a b c : Nat) (t : State) : State :=
  { t with cpu := { t.cpu with
    a := BitVec.ofNat 8 ((a + b + c) % 256)
    flags := { z := decide ((a + b + c) % 256 = 0), n := false, h := decide (a % 16 + b % 16 + c > 0xF),
               c := decide (a + b + c > 0xFF) } } }

/-- The flags after `a - b - c` (R403, R404, R408). -/
def borrowFlags (a b c : Int) : Flags where
  z := decide ((a - b - c) % 256 = 0)
  n := true
  h := decide (a % 16 - b % 16 - c < 0)
  c := decide (a - b - c < 0)

/-- `A` and the flags after `a - b - c` (R403, R404). -/
def subOutcome (a b c : Int) (t : State) : State :=
  { t with cpu := { t.cpu with a := BitVec.ofNat 8 ((a - b - c) % 256).toNat, flags := borrowFlags a b c } }

/-- `A` and the flags after a bitwise operation with result `v` (R405 to R407). -/
def logicOutcome (v : Byte) (h : Bool) (t : State) : State :=
  { t with cpu := { t.cpu with a := v, flags := { z := decide (v = 0), n := false, h := h, c := false } } }

/-- The state after an ALU operation on `a`, the operand value `v` and the carry `c`, put into `t`. -/
def aluOutcome (op : AluOp) (a v : Byte) (c : Bool) (t : State) : State :=
  match op with
  | .add => addOutcome a.toNat v.toNat 0 t
  | .adc => addOutcome a.toNat v.toNat c.toNat t
  | .sub => subOutcome a.toNat v.toNat 0 t
  | .sbc => subOutcome a.toNat v.toNat c.toNat t
  | .and => logicOutcome (a &&& v) true t
  | .xor => logicOutcome (a ^^^ v) false t
  | .or => logicOutcome (a ||| v) false t
  | .cp => setFlags (borrowFlags a.toNat v.toNat 0) t

theorem subFlags_eq_borrowFlags (a v : Byte) (c : Bool) : subFlags a v c = borrowFlags a.toNat v.toNat c.toNat := rfl

theorem setFlags_addFlags_eq (a v : Byte) (c : Bool) (t : State) :
    setFlags (addFlags a v c) (setReg .a (addByte a v c) t) = addOutcome a.toNat v.toNat c.toNat t := by
  rw [addByte_eq_ofNat]
  rfl

theorem setFlags_subFlags_eq (a v : Byte) (c : Bool) (t : State) :
    setFlags (subFlags a v c) (setReg .a (subByte a v c) t) = subOutcome a.toNat v.toNat c.toNat t := by
  rw [subByte_eq_ofNat, subFlags_eq_borrowFlags]
  rfl

/-- An ALU operation uses `A`, its operand and the carry, and writes `A` and the flags. -/
theorem aluValue_eq (op : AluOp) (v : Byte) (t : State) :
    aluValue op v t = aluOutcome op (reg .a t) v (getFlag .c t) t := by
  cases op with
  | add => exact setFlags_addFlags_eq _ v false t
  | adc => exact setFlags_addFlags_eq _ v _ t
  | sub => exact setFlags_subFlags_eq _ v false t
  | sbc => exact setFlags_subFlags_eq _ v _ t
  | cp => exact congrArg (setFlags · t) (subFlags_eq_borrowFlags _ v false)
  | and | xor | or => rfl

theorem exec_ofAlu (op : AluOp) (r : R8) (s : State) : exec (.ofAlu op r) s =
    .next (aluOutcome op (reg .a s) (readR8 r s).1 (getFlag .c s) (readR8 r s).2) := by
  have hexec : exec (.ofAlu op r) s = .next (aluR8 op r s) := by
    cases r with
    | mhl => cases op <;> rfl
    | reg x => cases op <;> cases x <;> rfl
  rw [hexec, aluR8, aluValue_eq, reg_readR8, getFlag_readR8]

theorem exec_ofAluImm (op : AluOp) (n : Byte) (s : State) : exec (.ofAluImm op n) s =
    .next (aluOutcome op (reg .a s) n (getFlag .c s) s) := by
  rw [← aluValue_eq]
  cases op <;> rfl

theorem decodes_ofAlu (op : AluOp) (r : R8) :
    Decodes [opByte (0x80 + 8 * aluCode op + r8Code r)] (.ofAlu op r) := by
  cases r with
  | mhl => cases op <;> exact fun _ => rfl
  | reg x => cases op <;> cases x <;> exact fun _ => rfl

theorem decodes_ofAluImm (op : AluOp) (n : Byte) : Decodes [opByte (0xC6 + 8 * aluCode op), n] (.ofAluImm op n) := by
  cases op <;> exact Laws.RoundTrip.of_byte rfl n

/-! INC and DEC (R410, R411) -/

theorem incFlags_eq (v : Byte) (f : Flags) : incFlags v f =
    { z := decide ((v.toNat + 1) % 256 = 0), n := false, h := decide (v.toNat % 16 = 15), c := f.c } := rfl

theorem decFlags_eq (v : Byte) (f : Flags) : decFlags v f =
    { z := decide ((v.toNat + 255) % 256 = 0), n := true, h := decide (v.toNat % 16 = 0), c := f.c } := by
  have hz : v.toNat = 1 ↔ (v.toNat + 255) % 256 = 0 := by omega
  simp only [← hz]
  rfl

theorem exec_ofInc (r : R8) (s : State) : exec (.ofInc r) s = .next (incR8 r s) := by
  cases r with
  | mhl => rfl
  | reg x => cases x <;> rfl

theorem exec_ofDec (r : R8) (s : State) : exec (.ofDec r) s = .next (decR8 r s) := by
  cases r with
  | mhl => rfl
  | reg x => cases x <;> rfl

theorem decodes_ofInc (r : R8) : Decodes [opByte (0x04 + 8 * r8Code r)] (.ofInc r) := by
  cases r with
  | mhl => exact fun _ => rfl
  | reg x => cases x <;> exact fun _ => rfl

theorem decodes_ofDec (r : R8) : Decodes [opByte (0x05 + 8 * r8Code r)] (.ofDec r) := by
  cases r with
  | mhl => exact fun _ => rfl
  | reg x => cases x <;> exact fun _ => rfl

end Sys2Proof.Machine

/-- Settles O32: both are `addOutcome`, ADD with carry 0, and reading the operand keeps `A` and the carry. -/
theorem addAndAdc : Obligations.AddAndAdc := by
  unfold Obligations.AddAndAdc
  exact ⟨fun r s => ⟨decodes_ofAlu .add r, exec_ofAlu .add r s, decodes_ofAlu .adc r, exec_ofAlu .adc r s⟩,
    fun n s => ⟨decodes_ofAluImm .add n, exec_ofAluImm .add n s, decodes_ofAluImm .adc n, exec_ofAluImm .adc n s⟩⟩

/-- Settles O33: SUB and SBC are `subOutcome`, SUB with borrow 0, and CP sets the flags of SUB only. -/
theorem subSbcAndCp : Obligations.SubSbcAndCp := by
  unfold Obligations.SubSbcAndCp
  exact ⟨fun r s => ⟨decodes_ofAlu .sub r, exec_ofAlu .sub r s, decodes_ofAlu .sbc r, exec_ofAlu .sbc r s,
      decodes_ofAlu .cp r, exec_ofAlu .cp r s⟩,
    fun n s => ⟨decodes_ofAluImm .sub n, exec_ofAluImm .sub n s, decodes_ofAluImm .sbc n, exec_ofAluImm .sbc n s,
      decodes_ofAluImm .cp n, exec_ofAluImm .cp n s⟩⟩

/-- Settles O34: the three are `logicOutcome` of their bitwise result, and differ in H. -/
theorem andXorAndOr : Obligations.AndXorAndOr := by
  unfold Obligations.AndXorAndOr
  exact ⟨fun r s => ⟨decodes_ofAlu .and r, exec_ofAlu .and r s, decodes_ofAlu .xor r, exec_ofAlu .xor r s,
      decodes_ofAlu .or r, exec_ofAlu .or r s⟩,
    fun n s => ⟨decodes_ofAluImm .and n, exec_ofAluImm .and n s, decodes_ofAluImm .xor n, exec_ofAluImm .xor n s,
      decodes_ofAluImm .or n, exec_ofAluImm .or n s⟩⟩

/-- Settles O35: neither the read nor the write of the operand touches the flags, so C is the old one. -/
theorem incAndDec8 : Obligations.IncAndDec8 := by
  unfold Obligations.IncAndDec8
  refine fun r s => ⟨decodes_ofInc r, ?inc, decodes_ofDec r, ?dec⟩
  case inc =>
    rw [exec_ofInc, incR8, add_one_eq_ofNat, incFlags_eq, writeR8_cpu_flags, readR8_cpu]
    rfl
  case dec =>
    rw [exec_ofDec, decR8, sub_one_eq_ofNat, decFlags_eq, writeR8_cpu_flags, readR8_cpu]
    rfl

/-- Settles O36: the complement is `255 - A`, and each of the three writes the flag record it states. -/
theorem cplScfAndCcf : Obligations.CplScfAndCcf := by
  unfold Obligations.CplScfAndCcf
  refine ⟨Laws.RoundTrip.cpl rfl, Laws.RoundTrip.scf rfl, Laws.RoundTrip.ccf rfl, fun s => ⟨?cpl, rfl, ?ccf⟩⟩
  case cpl =>
    rw [← not_eq_ofNat]
    rfl
  case ccf =>
    have hc : decide ((getFlag .c s).toNat = 0) = !s.cpu.flags.c := by
      rw [getFlag]
      cases s.cpu.flags.c <;> rfl
    rw [hc]
    rfl

end

section
/-! PROOFS. 16-bit arithmetic (41_alu16.md): ADD HL,rr (R450), INC rr and DEC rr (R451, R452), and the displaced stack
pointer of ADD SP,e8 and LD HL,SP+e8 (R453, R454). -/

open Sys2Proof Sys2Proof.Machine

namespace Sys2Proof.Machine

/-! Word results on numbers (R450 to R454) -/

theorem word_add_eq_ofNat (v w : Word) : v + w = BitVec.ofNat 16 ((v.toNat + w.toNat) % 65536) := by bv_omega

/-- Subtracting 1 is adding 65535 (R452). -/
theorem word_sub_one_eq_ofNat (v : Word) : v - 1 = BitVec.ofNat 16 ((v.toNat + 65535) % 65536) := by bv_omega

/-- A displacement is added as a signed number (R10, R305). -/
theorem add_sext16_eq_ofInt (v : Word) (u : Byte) : v + sext16 u = BitVec.ofInt 16 ((v.toNat : Int) + u.toInt) := by
  rw [BitVec.ofInt_add, BitVec.ofInt_natCast, BitVec.ofNat_toNat, BitVec.setWidth_eq]
  rfl

/-! ADD HL,rr (R450) -/

/-- The carry out of the low bytes (R450). -/
def lowCarry (a b : Nat) : Nat := if a % 256 + b % 256 > 0xFF then 1 else 0

theorem div_add_div_add_lowCarry (a b : Nat) : a / 256 + b / 256 + lowCarry a b = (a + b) / 256 :=
  (Nat.add_div (by decide)).symm

/-- The low 12 bits have the same low bytes, so propagating through them gives the carry out of bit 11. -/
theorem halfCarry_iff (a b : Nat) :
    a / 256 % 16 + b / 256 % 16 + lowCarry a b > 0xF ↔ a % 4096 + b % 4096 > 0x0FFF := by
  have hlow : lowCarry (a % 4096) (b % 4096) = lowCarry a b := by simp [lowCarry, Nat.mod_mod_of_dvd]
  have hsum := div_add_div_add_lowCarry (a % 4096) (b % 4096)
  rw [hlow] at hsum
  omega

theorem carry_iff (a b : Nat) : a / 256 + b / 256 + lowCarry a b > 0xFF ↔ a + b > 0xFFFF := by
  rw [div_add_div_add_lowCarry]
  omega

theorem addHlFlags_eq (a b : Word) (f : Flags) : addHlFlags a b f =
    { z := f.z, n := false
      h := decide (a.toNat / 256 % 16 + b.toNat / 256 % 16 + lowCarry a.toNat b.toNat > 0xF)
      c := decide (a.toNat / 256 + b.toNat / 256 + lowCarry a.toNat b.toNat > 0xFF) } := by
  have hlow : (decide (a.toNat % 256 + b.toNat % 256 > 0xFF)).toNat = lowCarry a.toNat b.toNat := by
    rw [lowCarry, Bool.toNat, Bool.cond_decide]
  rw [addHlFlags, hlow]

theorem exec_ofAddHl (p : RR) (s : State) : exec (.ofAddHl p) s = .next (addHlRR p s) := by
  cases p <;> rfl

theorem decodes_ofAddHl (p : RR) : Decodes [opByte (0x09 + 16 * rrCode p)] (.ofAddHl p) := by
  cases p <;> exact fun _ => rfl

/-! INC rr and DEC rr (R451, R452) -/

theorem exec_ofIncRR (p : RR) (s : State) : exec (.ofIncRR p) s = .next (incRR p s) := by
  cases p <;> rfl

theorem exec_ofDecRR (p : RR) (s : State) : exec (.ofDecRR p) s = .next (decRR p s) := by
  cases p <;> rfl

theorem decodes_ofIncRR (p : RR) : Decodes [opByte (0x03 + 16 * rrCode p)] (.ofIncRR p) := by
  cases p <;> exact fun _ => rfl

theorem decodes_ofDecRR (p : RR) : Decodes [opByte (0x0B + 16 * rrCode p)] (.ofDecRR p) := by
  cases p <;> exact fun _ => rfl

end Sys2Proof.Machine

/-- Settles O38: the flags are those of `addHlFlags`, whose two carries are the ones out of bits 11 and 15. -/
theorem addHl : Obligations.AddHl := by
  unfold Obligations.AddHl
  refine fun p s => ⟨decodes_ofAddHl p, ?_,
    decide_eq_decide.mpr (halfCarry_iff _ _), decide_eq_decide.mpr (carry_iff _ _)⟩
  rw [exec_ofAddHl, addHlRR, addHlFlags_eq, word_add_eq_ofNat]
  rfl

/-- Settles O39: the step writes the pair's successor or predecessor modulo 65536 and nothing else. -/
theorem incAndDec16 : Obligations.IncAndDec16 := by
  unfold Obligations.IncAndDec16
  refine fun p s => ⟨decodes_ofIncRR p, ?inc, decodes_ofDecRR p, ?dec⟩
  case inc =>
    rw [exec_ofIncRR, incRR, word_add_eq_ofNat]
    rfl
  case dec => rw [exec_ofDecRR, decRR, word_sub_one_eq_ofNat]

/-- Settles O40: both use one displaced word, `sext16` added being the signed displacement, and `spOffsetFlags`. -/
theorem spOffset : Obligations.SpOffset := by
  unfold Obligations.SpOffset
  intro u s
  rw [← add_sext16_eq_ofInt]
  exact ⟨Laws.RoundTrip.addSpE8 u rfl, rfl, Laws.RoundTrip.ldHlSpE8 u rfl, rfl⟩

end

section
/-! PROOFS. Rotates and shifts (42_rotate_shift.md): the accumulator forms (R500 to R503) and the CB forms on every
operand (R504 to R512), with their results on numbers. -/

open Sys2Proof Sys2Proof.Machine

namespace Sys2Proof.Machine

/-! Results on numbers (R505 to R512) -/

/-- The result of a rotate or shift of the number `v < 256` with old carry `c` (R505 to R512). -/
def rotNat (op : RotOp) (v c : Nat) : Nat :=
  match op with
  | .rlc => (2 * v + v / 128) % 256
  | .rrc => v / 2 + 128 * (v % 2)
  | .rl => (2 * v + c) % 256
  | .rr => v / 2 + 128 * c
  | .sla => 2 * v % 256
  | .sra => v / 2 + 128 * (v / 128)
  | .swap => 16 * (v % 16) + v / 16
  | .srl => v / 2

/-- The bit of the number `v < 256` that goes to C (R505 to R512). -/
def rotOutNat (op : RotOp) (v : Nat) : Bool :=
  match op with
  | .rlc | .rl | .sla => decide (v / 128 = 1)
  | .rrc | .rr | .sra | .srl => decide (v % 2 = 1)
  | .swap => false

/-- OR of a multiple of `2 ^ i` and a byte below `2 ^ i` is their sum: no bit stands in both. -/
theorem toNat_or_eq_add {x y : Byte} {i a b : Nat} (hx : x.toNat = 2 ^ i * a) (hy : y.toNat = b) (hb : b < 2 ^ i) :
    (x ||| y).toNat = 2 ^ i * a + b := by
  rw [BitVec.toNat_or, hx, hy, ← Nat.two_pow_add_eq_or_of_lt hb]

theorem toNat_shiftLeft_eq_mul (v : Byte) (i : Nat) (hi : i ≤ 8) :
    (v <<< i).toNat = 2 ^ i * (v.toNat % 2 ^ (8 - i)) := by
  rw [BitVec.toNat_shiftLeft, Nat.shiftLeft_eq, Nat.mul_comm, ← Nat.mul_mod_mul_left, ← Nat.pow_add,
    Nat.add_sub_cancel' hi]

theorem toNat_shiftRight_eq_div (v : Byte) (i : Nat) : (v >>> i).toNat = v.toNat / 2 ^ i := by
  rw [BitVec.toNat_ushiftRight, Nat.shiftRight_eq_div_pow]

/-- The result of a rotate or shift as a number: the two parts of each OR have no bit in common, so it is
their sum. -/
theorem rotResult_toNat (op : RotOp) (v : Byte) (c : Bool) :
    (rotResult op v c).toNat = rotNat op v.toNat c.toNat := by
  have hv : v.toNat < 256 := v.isLt
  have hc : c.toNat ≤ 1 := c.toNat_le
  have hleft := toNat_shiftLeft_eq_mul v
  have hright := toNat_shiftRight_eq_div v
  cases op with
  | rlc =>
    rw [rotResult, toNat_or_eq_add (hleft 1 (by decide)) (hright 7) (by omega), rotNat]
    omega
  | rrc =>
    rw [rotResult, BitVec.or_comm, toNat_or_eq_add (hleft 7 (by decide)) (hright 1) (by omega), rotNat]
    omega
  | rl =>
    have hlow : (BitVec.ofNat 8 c.toNat).toNat = c.toNat := Nat.mod_eq_of_lt (by omega)
    rw [rotResult, toNat_or_eq_add (hleft 1 (by decide)) hlow (by omega), rotNat]
    omega
  | rr =>
    have hhigh : (BitVec.ofNat 8 (0x80 * c.toNat)).toNat = 2 ^ 7 * c.toNat := Nat.mod_eq_of_lt (by omega)
    rw [rotResult, BitVec.or_comm, toNat_or_eq_add hhigh (hright 1) (by omega), rotNat]
    omega
  | sla =>
    rw [rotResult, hleft 1 (by decide), rotNat]
    omega
  | sra =>
    have hhigh : (v &&& 0x80).toNat = 2 ^ 7 * (v.toNat / 128) := by
      rw [BitVec.toNat_and, show (0x80 : Byte).toNat = 2 ^ 7 from rfl, Nat.and_two_pow, Nat.toNat_testBit]
      omega
    rw [rotResult, BitVec.or_comm, toNat_or_eq_add hhigh (hright 1) (by omega), rotNat]
    omega
  | swap =>
    have hlow : (v &&& 0x0F).toNat = v.toNat % 2 ^ 4 := Nat.and_two_pow_sub_one_eq_mod v.toNat 4
    rw [rotResult, toNat_or_eq_add (toNat_shiftLeft_eq_mul _ 4 (by decide)) (hright 4) (by omega), hlow, rotNat]
    omega
  | srl => exact hright 1

theorem rotResult_eq_ofNat (op : RotOp) (v : Byte) (c : Bool) :
    rotResult op v c = BitVec.ofNat 8 (rotNat op v.toNat c.toNat) := by
  rw [← rotResult_toNat, BitVec.ofNat_toNat, BitVec.setWidth_eq]

theorem getLsbD_seven_eq (v : Byte) : v.getLsbD 7 = decide (v.toNat / 128 = 1) := by
  have hv : v.toNat < 256 := v.isLt
  rw [BitVec.getLsbD, Nat.testBit_eq_decide_div_mod_eq, decide_eq_decide]
  omega

theorem getLsbD_zero_eq (v : Byte) : v.getLsbD 0 = decide (v.toNat % 2 = 1) := by
  rw [BitVec.getLsbD, Nat.testBit_zero]

theorem rotOut_eq (op : RotOp) (v : Byte) : rotOut op v = rotOutNat op v.toNat := by
  cases op with
  | rlc | rl | sla => exact getLsbD_seven_eq v
  | rrc | rr | sra | srl => exact getLsbD_zero_eq v
  | swap => rfl

/-- Z of a CB form is that of the result as a number (R504). -/
theorem rotFlags_eq (op : RotOp) (v : Byte) (c out : Bool) : rotFlags (rotResult op v c) out =
    { z := decide (rotNat op v.toNat c.toNat = 0), n := false, h := false, c := out } := by
  have hz : (rotResult op v c == 0) = decide (rotNat op v.toNat c.toNat = 0) := by
    rw [← rotResult_toNat, Bool.beq_eq_decide_eq, decide_eq_decide, ← BitVec.toNat_inj]
    rfl
  rw [rotFlags, hz]

/-! The accumulator forms (R500 to R503) -/

/-- The state an accumulator rotate leaves: `A`, and C as the only flag that can stand (R500 to R503). -/
theorem rotAcc_eq (op : RotOp) (s : State) : rotAcc op s = { s with cpu := { s.cpu with
    a := BitVec.ofNat 8 (rotNat op (reg .a s).toNat (getFlag .c s).toNat)
    flags := { z := false, n := false, h := false, c := rotOutNat op (reg .a s).toNat } } } := by
  rw [rotAcc, rotResult_eq_ofNat, rotOut_eq]
  rfl

/-! The CB forms (R504 to R512) -/

/-- A CB form reads its operand once, writes the result once, and sets the flags last (R504). -/
theorem exec_ofRot (op : RotOp) (r : R8) (s : State) : exec (.ofRot op r) s = .next (setFlags
    { z := decide (rotNat op (readR8 r s).1.toNat (getFlag .c s).toNat = 0), n := false, h := false,
      c := rotOutNat op (readR8 r s).1.toNat }
    (writeR8 r (BitVec.ofNat 8 (rotNat op (readR8 r s).1.toNat (getFlag .c s).toNat)) (readR8 r s).2)) := by
  have hexec : exec (.ofRot op r) s = .next (rotR8 op r s) := by
    cases r with
    | mhl => cases op <;> rfl
    | reg x => cases op <;> cases x <;> rfl
  rw [hexec, rotR8, rotFlags_eq, rotOut_eq, rotResult_eq_ofNat]

theorem decodes_ofRot (op : RotOp) (r : R8) : Decodes [0xCB, opByte (8 * rotCode op + r8Code r)] (.ofRot op r) := by
  cases r with
  | mhl => cases op <;> exact fun _ => rfl
  | reg x => cases op <;> cases x <;> exact fun _ => rfl

end Sys2Proof.Machine

/-- Settles O41: each of the four is `rotAcc` of its CB form's operation, whose flag record has Z clear. -/
theorem accumulatorRotates : Obligations.AccumulatorRotates := by
  unfold Obligations.AccumulatorRotates
  exact ⟨Laws.RoundTrip.rlca rfl, Laws.RoundTrip.rrca rfl, Laws.RoundTrip.rla rfl, Laws.RoundTrip.rra rfl,
    fun s => ⟨congrArg _ (rotAcc_eq .rlc s), congrArg _ (rotAcc_eq .rrc s), congrArg _ (rotAcc_eq .rl s),
      congrArg _ (rotAcc_eq .rr s)⟩⟩

/-- Settles O42: the eight are one operation, `exec_ofRot`, at the eight rows of `rotNat` and `rotOutNat`. -/
theorem cbRotatesAndShifts : Obligations.CbRotatesAndShifts := by
  unfold Obligations.CbRotatesAndShifts
  exact fun r s => ⟨fun op => decodes_ofRot op r, exec_ofRot .rlc r s, exec_ofRot .rrc r s, exec_ofRot .rl r s,
    exec_ofRot .rr r s, exec_ofRot .sla r s, exec_ofRot .sra r s, exec_ofRot .swap r s, exec_ofRot .srl r s⟩

end

section
/-! PROOFS. Bit test, reset and set (43_bit.md): BIT (R550), RES (R551) and SET (R552) on every bit and operand, with
their results on numbers. -/

open Sys2Proof Sys2Proof.Machine

namespace Sys2Proof.Machine

/-! Clearing and setting the bits of a mask, as arithmetic -/

/-- The bits of `v` outside the mask `m` and those inside it have no bit in common and sum to `v`. -/
theorem and_not_eq_sub (v m : Byte) : v &&& ~~~m = v - (v &&& m) := by
  have hdisj : (v &&& ~~~m) &&& (v &&& m) = 0#8 := by
    ext i
    grind
  have hunion : (v &&& ~~~m) ||| (v &&& m) = v := by
    ext i
    grind
  rw [BitVec.eq_sub_iff_add_eq, BitVec.add_eq_or_of_and_eq_zero _ _ hdisj, hunion]

/-- Setting the bits of the mask `m` adds those of its bits that were clear. -/
theorem or_eq_add_sub (v m : Byte) : v ||| m = v + (m - (v &&& m)) := by
  have hdisj : v &&& (m &&& ~~~v) = 0#8 := by
    ext i
    grind
  have hunion : v ||| (m &&& ~~~v) = v ||| m := by
    ext i
    grind
  rw [BitVec.and_comm v m, ← and_not_eq_sub, BitVec.add_eq_or_of_and_eq_zero _ _ hdisj, hunion]

/-! The mask of a bit (R301) -/

theorem bitIndex_eq_bitCode (b : BitIx) : bitIndex b = bitCode b := by
  cases b <;> rfl

theorem toNat_bitMask (b : BitIx) : ((1 : Byte) <<< bitIndex b).toNat = 2 ^ bitCode b := by
  cases b <;> rfl

/-- What a byte has in common with the mask of bit `b` is the value of that bit in it. -/
theorem toNat_and_bitMask (v : Byte) (b : BitIx) :
    (v &&& ((1 : Byte) <<< bitIndex b)).toNat = v.toNat / 2 ^ bitCode b % 2 * 2 ^ bitCode b := by
  rw [BitVec.toNat_and, toNat_bitMask, Nat.and_two_pow, Nat.toNat_testBit]

/-! Results on numbers (R550 to R552) -/

theorem not_getLsbD_bitIndex (v : Byte) (b : BitIx) :
    (!v.getLsbD (bitIndex b)) = decide (v.toNat / 2 ^ bitCode b % 2 = 0) := by
  rw [bitIndex_eq_bitCode, BitVec.getLsbD, Nat.testBit_eq_decide_div_mod_eq, ← decide_not, decide_eq_decide]
  omega

/-- RES subtracts the value of the bit (R551). -/
theorem and_not_bitMask_eq_ofNat (v : Byte) (b : BitIx) : v &&& ~~~ ((1 : Byte) <<< bitIndex b) =
    BitVec.ofNat 8 (v.toNat - v.toNat / 2 ^ bitCode b % 2 * 2 ^ bitCode b) := by
  have hle : v &&& ((1 : Byte) <<< bitIndex b) ≤ v := Nat.and_le_left
  rw [and_not_eq_sub, ← toNat_and_bitMask, ← BitVec.toNat_sub_of_le hle, BitVec.ofNat_toNat, BitVec.setWidth_eq]

/-- SET adds the value of the bit where it is clear (R552). -/
theorem or_bitMask_eq_ofNat (v : Byte) (b : BitIx) : v ||| ((1 : Byte) <<< bitIndex b) =
    BitVec.ofNat 8 (v.toNat + (1 - v.toNat / 2 ^ bitCode b % 2) * 2 ^ bitCode b) := by
  have hle : v &&& ((1 : Byte) <<< bitIndex b) ≤ (1 : Byte) <<< bitIndex b := Nat.and_le_right
  rw [or_eq_add_sub, Nat.sub_mul, Nat.one_mul, ← toNat_and_bitMask, ← toNat_bitMask, ← BitVec.toNat_sub_of_le hle,
    BitVec.ofNat_add, BitVec.ofNat_toNat, BitVec.ofNat_toNat, BitVec.setWidth_eq, BitVec.setWidth_eq]

/-! The rows (R550 to R552) -/

theorem exec_ofBit (b : BitIx) (r : R8) (s : State) : exec (.ofBit b r) s = .next (bitR8 b r s) := by
  cases r with
  | mhl => cases b <;> rfl
  | reg x => cases b <;> cases x <;> rfl

theorem exec_ofRes (b : BitIx) (r : R8) (s : State) : exec (.ofRes b r) s = .next (resR8 b r s) := by
  cases r with
  | mhl => cases b <;> rfl
  | reg x => cases b <;> cases x <;> rfl

theorem exec_ofSet (b : BitIx) (r : R8) (s : State) : exec (.ofSet b r) s = .next (setR8 b r s) := by
  cases r with
  | mhl => cases b <;> rfl
  | reg x => cases b <;> cases x <;> rfl

theorem decodes_ofBit (b : BitIx) (r : R8) :
    Decodes [0xCB, opByte (0x40 + 8 * bitCode b + r8Code r)] (.ofBit b r) := by
  cases r with
  | mhl => cases b <;> exact fun _ => rfl
  | reg x => cases b <;> cases x <;> exact fun _ => rfl

theorem decodes_ofRes (b : BitIx) (r : R8) :
    Decodes [0xCB, opByte (0x80 + 8 * bitCode b + r8Code r)] (.ofRes b r) := by
  cases r with
  | mhl => cases b <;> exact fun _ => rfl
  | reg x => cases b <;> cases x <;> exact fun _ => rfl

theorem decodes_ofSet (b : BitIx) (r : R8) :
    Decodes [0xCB, opByte (0xC0 + 8 * bitCode b + r8Code r)] (.ofSet b r) := by
  cases r with
  | mhl => cases b <;> exact fun _ => rfl
  | reg x => cases b <;> cases x <;> exact fun _ => rfl

end Sys2Proof.Machine

/-- Settles O43: the state is that after the one read of the operand, with the flag record of `bitFlags`, whose Z is
the complement of the bit on numbers. -/
theorem bitTest : Obligations.BitTest := by
  unfold Obligations.BitTest
  refine fun b r s => ⟨decodes_ofBit b r, ?_⟩
  rw [exec_ofBit, bitR8, bitFlags, not_getLsbD_bitIndex, readR8_cpu]
  rfl

/-- Settles O44: RES subtracts the bit's value and SET adds it where it is clear; both write the result
unconditionally and touch no flag. -/
theorem resAndSet : Obligations.ResAndSet := by
  unfold Obligations.ResAndSet
  refine fun b r s => ⟨decodes_ofRes b r, ?res, decodes_ofSet b r, ?set⟩
  case res => rw [exec_ofRes, resR8, and_not_bitMask_eq_ofNat]
  case set => rw [exec_ofSet, setR8, or_bitMask_eq_ofNat]

end

section
/-! PROOFS. Control transfer and stack (44_control.md): the stack primitives (R600, R601), calls and restarts (R610,
R611, R616), returns (R612 to R614), PUSH and POP (R621, R622). The jumps (R605 to R609) stand above, with the step. -/

open Sys2Proof Sys2Proof.Machine

namespace Sys2Proof.Machine

/-! Addresses on the stack -/

theorem word_sub_one_sub_one (a : Word) : a - 1 - 1 = a - 2 := BitVec.sub_sub a 1 1
theorem word_add_one_add_one (a : Word) : a + 1 + 1 = a + 2 := BitVec.add_assoc a 1 1
theorem word_sub_two_add_one (a : Word) : a - 2 + 1 = a - 1 := by bv_omega

/-! The stack primitives (R600, R601) -/

/-- A write does not look at SP. -/
theorem memWrite_setSp (a : Word) (v : Byte) (sp : Word) (s : State) :
    memWrite a v (setSp sp s) = setSp sp (memWrite a v s) := by
  rw [setSp, memWrite_with_cpu, setSp, memWrite_cpu]

theorem peek_setSp (a sp : Word) (s : State) : peek a (setSp sp s) = peek a s := rfl

/-- A push is two writes, the high byte first, with SP moved once (R600). -/
theorem push16_eq (v : Word) (s : State) : push16 v s = setSp (s.cpu.sp - 2)
    (memWrite (s.cpu.sp - 2) (loByte v) (memWrite (s.cpu.sp - 1) (hiByte v) s)) := by
  simp only [push16, memWrite_setSp, setSp_cpu_sp, word_sub_one_sub_one]
  rfl

/-- A pop is a 16-bit read at SP, with SP moved once (R601). -/
theorem pop16_eq (s : State) :
    pop16 s = ((read16 s.cpu.sp s).1, setSp (s.cpu.sp + 2) (read16 s.cpu.sp s).2) := by
  simp only [pop16, read16, memRead_setSp, setSp_cpu_sp, memRead_snd, readEffect_cpu, word_add_one_add_one]
  rfl

/-! The pushed word in memory (R235, R600) -/

section
variable {s : State}

theorem peek_push16_low (v : Word) (hwf : Memory.wf s.mem.cells = true) (hlo : isStored (s.cpu.sp - 2)) :
    peek (s.cpu.sp - 2) (push16 v s) = loByte v := by
  rw [push16_eq, peek_setSp, peek_memWrite_same _ _ _ hlo (wf_memWrite _ _ _ hwf)]

theorem peek_push16_high (v : Word) (hwf : Memory.wf s.mem.cells = true) (hhi : isStored (s.cpu.sp - 1)) :
    peek (s.cpu.sp - 1) (push16 v s) = hiByte v := by
  have hne : s.cpu.sp - 1 ≠ s.cpu.sp - 2 := by bv_omega
  rw [push16_eq, peek_setSp, peek_memWrite_ne _ _ _ _ hne, peek_memWrite_same _ _ _ hhi hwf]

/-- A word pushed to stored memory pops back. -/
theorem pop16_push16 (v : Word) (hwf : Memory.wf s.mem.cells = true) (hhi : isStored (s.cpu.sp - 1))
    (hlo : isStored (s.cpu.sp - 2)) : (pop16 (push16 v s)).1 = v := by
  have hsp : (push16 v s).cpu.sp = s.cpu.sp - 2 := by rw [push16_cpu, word_sub_one_sub_one]
  have hnext := word_sub_two_add_one s.cpu.sp
  rw [pop16_eq, hsp, read16_fst _ _ (isStored_above_overlay hlo) (hnext ▸ isStored_above_overlay hhi), hnext,
    peek_push16_high v hwf hhi, peek_push16_low v hwf hlo, joinBytes_hiByte_loByte]

end

/-! Calls and restarts (R610, R611, R616) -/

theorem exec_ofCall (cc : Cond) (nn : Word) (s : State) : exec (.ofCall cc nn) s = .next (ifCond cc (callTo nn) s) := by
  cases cc <;> rfl

theorem exec_ofRst (t : Rst) (s : State) : exec (.ofRst t) s = .next (callTo (BitVec.ofNat 16 (8 * rstCode t)) s) := by
  cases t <;> rfl

theorem decodes_ofCall (cc : Cond) (nn : Word) :
    Decodes [opByte (0xC4 + 8 * condCode cc), loByte nn, hiByte nn] (.ofCall cc nn) := by
  cases cc <;> exact Laws.RoundTrip.of_word rfl nn

theorem decodes_ofRst (t : Rst) : Decodes [opByte (0xC7 + 8 * rstCode t)] (.ofRst t) := by
  cases t <;> exact fun _ => rfl

/-- The hook of a restart is that of CALL (R323). -/
theorem controlHook_ofRst (a0 : Word) (t : Rst) (s : State) :
    controlHook a0 (.ofRst t) s = emit (.callEntered a0 s.cpu.pc) s := by
  rw [controlHook, hookKind_ofRst]

theorem controlHook_ofCall (a0 : Word) (cc : Cond) (nn : Word) (s : State) :
    controlHook a0 (.ofCall cc nn) s = emitIf s.cpu.taken (.callEntered a0 s.cpu.pc) s := by
  rw [controlHook, hookKind_ofCall]

/-- `taken` was clear, so the hook of a conditional call emits exactly when the condition holds (R611). -/
theorem controlHook_ofCall_ifCond (a0 : Word) (cc : Cond) (nn : Word) {s : State} (htaken : s.cpu.taken = false) :
    controlHook a0 (.ofCall cc nn) (ifCond cc (callTo nn) s) =
      if condHolds cc s then emit (.callEntered a0 nn) (ifCond cc (callTo nn) s) else ifCond cc (callTo nn) s := by
  rw [controlHook_ofCall]
  by_cases hcc : condHolds cc s = true
  · rw [ifCond, if_pos hcc, if_pos hcc]
    rfl
  · rw [ifCond, if_neg hcc, if_neg hcc, htaken]
    rfl

/-! Returns (R612 to R614) -/

theorem exec_ofRet (cc : Cond) (s : State) : exec (.ofRet cc) s = .next (ifCond cc returnPop s) := by
  cases cc <;> rfl

theorem decodes_ofRet (cc : Cond) : Decodes [opByte (0xC0 + 8 * condCode cc)] (.ofRet cc) := by
  cases cc <;> exact fun _ => rfl

/-! PUSH and POP (R621, R622) -/

theorem exec_ofPush (q : QQ) (s : State) : exec (.ofPush q) s = .next (pushQQ q s) := by
  cases q <;> rfl

theorem exec_ofPop (q : QQ) (s : State) : exec (.ofPop q) s = .next (popQQ q s) := by
  cases q <;> rfl

theorem decodes_ofPush (q : QQ) : Decodes [opByte (0xC5 + 16 * qqCode q)] (.ofPush q) := by
  cases q <;> exact fun _ => rfl

theorem decodes_ofPop (q : QQ) : Decodes [opByte (0xC1 + 16 * qqCode q)] (.ofPop q) := by
  cases q <;> exact fun _ => rfl

end Sys2Proof.Machine

/-- Settles O46: SP moves past both accesses, since no access looks at it; the two bytes stored are then read back. -/
theorem stackPrimitives : Obligations.StackPrimitives := by
  unfold Obligations.StackPrimitives
  refine fun v s => ⟨push16_eq v s, pop16_eq s, fun hwf hhi hlo => ⟨?low, ?high, pop16_push16 v hwf hhi hlo⟩⟩
  case low => rw [peek_push16_low v hwf hlo, loByte_toNat]
  case high => rw [peek_push16_high v hwf hhi, hiByte_toNat]

/-- Settles O47: CALL and RST are `callTo`, whose PC is the target the hook reads; CALL cc is `ifCond` of it. -/
theorem callsAndRestarts : Obligations.CallsAndRestarts := by
  unfold Obligations.CallsAndRestarts
  exact fun nn s => ⟨Laws.RoundTrip.callA16 nn rfl, rfl, fun _ => rfl,
    fun cc => ⟨decodes_ofCall cc nn, exec_ofCall cc nn s, fun htaken a0 => controlHook_ofCall_ifCond a0 cc nn htaken⟩,
    fun t => ⟨decodes_ofRst t, exec_ofRst t s, fun a0 => controlHook_ofRst a0 t _⟩⟩

/-- Settles O48: RET and RETI are both `returnPop`, and RET cc is `ifCond` of it. -/
theorem returns : Obligations.Returns := by
  unfold Obligations.Returns
  exact ⟨Laws.RoundTrip.ret rfl, Laws.RoundTrip.reti rfl, fun s => ⟨rfl, rfl, fun _ => ⟨rfl, rfl⟩,
    fun cc => ⟨decodes_ofRet cc, exec_ofRet cc s⟩⟩⟩

/-- Settles O49: each pair's row is `pushQQ` or `popQQ`, which go through the pair's own read and write. -/
theorem pushAndPop : Obligations.PushAndPop := by
  unfold Obligations.PushAndPop
  exact fun q s => ⟨decodes_ofPush q, exec_ofPush q s, decodes_ofPop q, exec_ofPop q s⟩

end

section
/-! PROOFS. Loads (45_load.md): LD r,r' and its (HL) and d8 forms (R650 to R654), the loads and stores of A (R655 to
R668), and the 16-bit loads (R669 to R671). -/

open Sys2Proof Sys2Proof.Machine

namespace Sys2Proof.Machine

/-! LD r,r', LD r,(HL), LD (HL),r and LD r,d8 (R650 to R653) -/

theorem exec_ofLd (r r' : Reg8) (s : State) : exec (.ofLd r r') s = .next (setReg r (reg r' s) s) := by
  cases r <;> cases r' <;> rfl

theorem exec_ofLdFromHl (r : Reg8) (s : State) : exec (.ofLdFromHl r) s = .next (loadReg r (pair .hl s) s) := by
  cases r <;> rfl

theorem exec_ofLdToHl (r : Reg8) (s : State) : exec (.ofLdToHl r) s = .next (memWrite (pair .hl s) (reg r s) s) := by
  cases r <;> rfl

theorem exec_ofLdImm (r : Reg8) (n : Byte) (s : State) : exec (.ofLdImm r n) s = .next (setReg r n s) := by
  cases r <;> rfl

theorem decodes_ofLd (r r' : Reg8) : Decodes [opByte (0x40 + 8 * regCode r + regCode r')] (.ofLd r r') := by
  cases r <;> cases r' <;> exact fun _ => rfl

theorem decodes_ofLdFromHl (r : Reg8) : Decodes [opByte (0x46 + 8 * regCode r)] (.ofLdFromHl r) := by
  cases r <;> exact fun _ => rfl

theorem decodes_ofLdToHl (r : Reg8) : Decodes [opByte (0x70 + regCode r)] (.ofLdToHl r) := by
  cases r <;> exact fun _ => rfl

theorem decodes_ofLdImm (r : Reg8) (n : Byte) : Decodes [opByte (0x06 + 8 * regCode r), n] (.ofLdImm r n) := by
  cases r <;> exact Laws.RoundTrip.of_byte rfl n

/-! The address registers of the loads of A (R655 to R668, R672) -/

/-- A load of A leaves HL. -/
theorem pair_hl_loadReg_a (a : Word) (s : State) : pair .hl (loadReg .a a s) = pair .hl s := pair_readEffect .hl a s

/-- Where the access left HL, the step after it is HL as it was, moved modulo 65536 (R659 to R662). -/
theorem stepHl_eq {d : Word} {n : Nat} (hd : d.toNat = n) {s t : State} (h : pair .hl t = pair .hl s) :
    stepHl d t = setPair .hl (BitVec.ofNat 16 (((pair .hl s).toNat + n) % 65536)) t := by
  rw [stepHl, h, word_add_eq_ofNat, hd]

/-- The high page is computed on numbers as 0xFF00 plus the byte (R305, R672). -/
theorem highPage_eq_ofNat (x : Byte) : highPage x = BitVec.ofNat 16 (0xFF00 + x.toNat) := by
  rw [highPage, BitVec.ofNat_add, BitVec.ofNat_toNat]
  rfl

/-! LD rr,d16 (R669) -/

theorem exec_ofLdRR (p : RR) (nn : Word) (s : State) : exec (.ofLdRR p nn) s = .next (setPair (rrPair p) nn s) := by
  cases p <;> rfl

theorem decodes_ofLdRR (p : RR) (nn : Word) :
    Decodes [opByte (0x01 + 16 * rrCode p), loByte nn, hiByte nn] (.ofLdRR p nn) := by
  cases p <;> exact Laws.RoundTrip.of_word rfl nn

end Sys2Proof.Machine

/-- Settles O51: one equation per form; `loadReg` takes the address before it writes the register, so also for H
and L. -/
theorem registerLoads : Obligations.RegisterLoads := by
  unfold Obligations.RegisterLoads
  exact fun r r' n s => ⟨decodes_ofLd r r', exec_ofLd r r' s, decodes_ofLdFromHl r, exec_ofLdFromHl r s,
    decodes_ofLdToHl r, exec_ofLdToHl r s, decodes_ofLdImm r n, exec_ofLdImm r n s,
    Laws.RoundTrip.ldMhlD8 n rfl, rfl⟩

/-- Settles O52: neither access changes HL, so `stepHl_eq` moves HL as it was, by 1 or by −1, which is 65535. -/
theorem indirectLoads : Obligations.IndirectLoads := by
  unfold Obligations.IndirectLoads
  refine ⟨⟨Laws.RoundTrip.ldAMbc rfl, Laws.RoundTrip.ldAMde rfl, Laws.RoundTrip.ldMbcA rfl,
    Laws.RoundTrip.ldMdeA rfl, Laws.RoundTrip.ldAMhli rfl, Laws.RoundTrip.ldAMhld rfl, Laws.RoundTrip.ldMhliA rfl,
    Laws.RoundTrip.ldMhldA rfl⟩, fun s => ?_⟩
  have hload := pair_hl_loadReg_a (pair .hl s) s
  have hstore := pair_memWrite .hl (pair .hl s) (reg .a s) s
  have hup : (1 : Word).toNat = 1 := rfl
  have hdown : (-1 : Word).toNat = 65535 := rfl
  refine ⟨rfl, rfl, rfl, rfl, ?loadUp, ?loadDown, ?storeUp, ?storeDown⟩
  case loadUp => exact congrArg Host.Outcome.next (stepHl_eq hup hload)
  case loadDown => exact congrArg Host.Outcome.next (stepHl_eq hdown hload)
  case storeUp => exact congrArg Host.Outcome.next (stepHl_eq hup hstore)
  case storeDown => exact congrArg Host.Outcome.next (stepHl_eq hdown hstore)

/-- Settles O53: each form is one access of A at its address, and the high page's address is 0xFF00 plus the byte. -/
theorem absoluteAndHighPageLoads : Obligations.AbsoluteAndHighPageLoads := by
  unfold Obligations.AbsoluteAndHighPageLoads
  simp only [← highPage_eq_ofNat]
  exact fun nn n s => ⟨Laws.RoundTrip.ldAMa16 nn rfl, rfl, Laws.RoundTrip.ldMa16A nn rfl, rfl,
    Laws.RoundTrip.ldhAMa8 n rfl, rfl, Laws.RoundTrip.ldhMa8A n rfl, rfl,
    Laws.RoundTrip.ldAMc rfl, rfl, Laws.RoundTrip.ldMcA rfl, rfl⟩

/-- Settles O54: each pair's row writes through `rrPair`; LD (a16),SP is `write16` of SP, two writes, low byte first. -/
theorem wordLoads : Obligations.WordLoads := by
  unfold Obligations.WordLoads
  exact fun p nn s => ⟨decodes_ofLdRR p nn, exec_ofLdRR p nn s, Laws.RoundTrip.ldMa16Sp nn rfl, rfl,
    Laws.RoundTrip.ldSpHl rfl, rfl⟩

end

section
/-! PROOFS. Control and system instructions (46_misc.md): the five placeholders in both modes (R701 to R705, R421), NOP
(R700), and the prefix 0xCB (R706). -/

open Sys2Proof Sys2Proof.Machine

namespace Sys2Proof.Machine

/-! Placeholders (R421, R701 to R705) -/

theorem exec_placeholderOpcodes (n : Byte) : ∀ x ∈ placeholderOpcodes n, ∀ s,
    exec x.1 s = .next (placeholder x.2.1 (BitVec.ofNat 16 x.2.2) s) := by
  intro x hx
  fin_cases hx <;> exact fun _ => rfl

theorem placeholder_of_sourceNop (op : Byte) (len : Word) {s : State} (h : s.cfg.placeholderMode = .sourceNop) :
    placeholder op len s = s := by
  rw [placeholder, h]

theorem placeholder_of_refuse (op : Byte) (len : Word) {s : State} (h : s.cfg.placeholderMode = .refuse) :
    placeholder op len s = { s with
      status := .refused op
      out := s.out ++ [.refusal (s.cpu.pc - len) op] } := by
  rw [placeholder, h]
  rfl

/-! The prefix 0xCB (R314, R316, R706) -/

theorem exec_ofRot_eq_rotR8 (op : RotOp) (r : R8) (s : State) : exec (.ofRot op r) s = .next (rotR8 op r s) := by
  rw [exec_ofRot, rotR8, rotFlags_eq, rotOut_eq, rotResult_eq_ofNat]

/-- The entry of the CB table for a byte's fields x, y and z, in the shape of `cbRule`. -/
def cbInstr (op2 : Byte) : Instr :=
  let y := op2.toNat / 8 % 8
  let r := r8OfField (op2.toNat % 8)
  match op2.toNat / 64 with
  | 0 => .ofRot (rotOfField y) r
  | 1 => .ofBit (bitOfField y) r
  | 2 => .ofRes (bitOfField y) r
  | _ => .ofSet (bitOfField y) r

/-- The map of R316, sixteen rows of sixteen, is ordered by the fields x, y and z. -/
theorem cbEntry_eq_cbInstr : ∀ op2 : Byte, cbEntry op2 = cbInstr op2 := by decide

/-- The table and the rule agree (R316, R706): one case for each value of the field x. -/
theorem exec_cbEntry (op2 : Byte) (s : State) : exec (cbEntry op2) s = .next (cbRule op2 s) := by
  rw [cbEntry_eq_cbInstr, cbInstr, cbRule]
  match op2.toNat / 64 with
  | 0 => exact exec_ofRot_eq_rotR8 _ _ s
  | 1 => exact exec_ofBit _ _ s
  | 2 => exact exec_ofRes _ _ s
  | _ + 3 => exact exec_ofSet _ _ s

end Sys2Proof.Machine

/-- Settles O37: each of the five is `placeholder` with its own opcode and length, and the mode alone decides what that
does; STOP decodes with its byte and drops it. -/
theorem placeholders : Obligations.Placeholders := by
  unfold Obligations.Placeholders
  refine ⟨⟨Laws.RoundTrip.daa rfl, Laws.RoundTrip.halt rfl, fun n => Laws.RoundTrip.stop n rfl,
    Laws.RoundTrip.di rfl, Laws.RoundTrip.ei rfl⟩, fun n s i op len hmem => ?_⟩
  rw [exec_placeholderOpcodes n _ hmem s]
  exact ⟨fun hmode => congrArg _ (placeholder_of_sourceNop op _ hmode),
    fun hmode => congrArg _ (placeholder_of_refuse op _ hmode)⟩

/-- Settles O55: the prefix row is `cbRule` after one fetch, and so is every entry of the CB table. -/
theorem nopAndPrefix : Obligations.NopAndPrefix := by
  unfold Obligations.NopAndPrefix
  refine ⟨Laws.RoundTrip.nop rfl, fun _ _ => rfl, fun s => ⟨rfl, prefixedEntry s, rfl, ?entry⟩⟩
  case entry => rw [exec_cbEntry, prefixedEntry, fetchByte_eq]

end

section
/-! PROOFS. Abnormal outcomes (60_exceptions.md): the bytes a step fetches are those at PC (R320), only the eleven
opcodes without an entry and the placeholders touch the status (R801, R804, R806), nothing of a step follows them, and
when construction and loading fail (R803). -/

open Sys2Proof Sys2Proof.Machine

namespace Sys2Proof.Machine

/-! The bytes of the fetch (R211, R320) -/

/-- The unbind is due only at PC = 0x0100, so it leaves a byte alone that lies above the overlay in that case. -/
theorem peek_unbindIfDue_of_pc {b : Word} {s : State} (h : s.cpu.pc = 0x0100 → 0x0100 ≤ b.toNat) :
    peek b (unbindIfDue s) = peek b s := by
  obtain ⟨-, hpc, -⟩ | ⟨-, hnone⟩ := unbindIfDue_cases s
  · exact peek_unbindIfDue b s (h hpc)
  · rw [hnone]

theorem fetchByte_fst_eq_peek (s : State) : (fetchByte s).1 = peek s.cpu.pc s :=
  peek_unbindIfDue_of_pc fun hpc => by rw [hpc]; decide

theorem peek_fetchByte {b : Word} {s : State} (h : s.cpu.pc = 0x0100 → 0x0100 ≤ b.toNat) :
    peek b (fetchByte s).2 = peek b s := by
  have hmem : (fetchByte s).2.mem = (unbindIfDue s).mem := by simp [fetchByte]
  rw [← peek_unbindIfDue_of_pc h, peek, hmem, peek]

theorem fetchByte_second (s : State) : (fetchByte (fetchByte s).2).1 = peek (s.cpu.pc + 1) s := by
  rw [fetchByte_fst_eq_peek, fetchByte_snd_pc]
  exact peek_fetchByte fun hpc => by rw [hpc]; decide

theorem fetchByte_third (s : State) : (fetchByte (fetchByte (fetchByte s).2).2).1 = peek (s.cpu.pc + 2) s := by
  rw [fetchByte_second, fetchByte_snd_pc, word_add_one_add_one]
  exact peek_fetchByte fun hpc => by rw [hpc]; decide

theorem fetchedBytes_pc (n : Nat) (s : State) : (fetchedBytes n s).cpu.pc = s.cpu.pc + BitVec.ofNat 16 n := by
  induction n generalizing s with
  | zero => simp [fetchedBytes]
  | succ n ih =>
    rw [fetchedBytes, ih, fetchByte_snd_pc, BitVec.add_assoc, BitVec.add_comm 1]
    exact congrArg _ (BitVec.ofNat_add n 1).symm

theorem fetchedBytes_status (n : Nat) (s : State) : (fetchedBytes n s).status = s.status := by
  induction n generalizing s with
  | zero => rfl
  | succ n ih => exact (ih _).trans (fetchByte_snd_status s)

theorem fetchedBytes_cfg (n : Nat) (s : State) : (fetchedBytes n s).cfg = s.cfg := by
  induction n generalizing s with
  | zero => rfl
  | succ n ih => exact (ih _).trans (keeps_fetchByte s).cfg

/-- What a step fetches is what the decoder reads from the bytes at PC, and the bytes it reads are the bytes fetched. -/
theorem fetchInstr_of_decode {s : State} {i : Instr} {rest : List Byte} (h : decode (codeAt s) = .ok (i, rest)) :
    (fetchInstr s).instr = i ∧ (fetchInstr s).state = fetchedBytes (3 - rest.length) s := by
  simp only [codeAt, decode] at h
  simp only [fetchInstr, fetchByte_third s, fetchByte_second s, fetchByte_fst_eq_peek s]
  cases hentry : mainEntry (peek s.cpu.pc s)
  all_goals
    simp only [hentry, Except.ok.injEq, Prod.mk.injEq] at h ⊢
    obtain ⟨rfl, rfl⟩ := h
    exact ⟨rfl, rfl⟩

/-- An instruction whose opcode is one byte has that byte at PC, and the decoder consumes the size of its entry. -/
theorem decode_codeAt_opcode {s : State} {i : Instr} {rest : List Byte} {op : Byte}
    (h : decode (codeAt s) = .ok (i, rest)) (hop : opcode i = op.toNat) :
    peek s.cpu.pc s = op ∧ rest = (codeAt s).drop (mainEntry op).size := by
  suffices hhead : opcode i = (peek s.cpu.pc s).toNat ∧ rest = (codeAt s).drop (mainEntry (peek s.cpu.pc s)).size by
    obtain ⟨hpeek, hrest⟩ := hhead
    obtain rfl : peek s.cpu.pc s = op := BitVec.eq_of_toNat_eq (hpeek.symm.trans hop)
    exact ⟨rfl, hrest⟩
  simp only [codeAt, decode] at h
  cases hentry : mainEntry (peek s.cpu.pc s) <;>
    simp only [hentry, Except.ok.injEq, Prod.mk.injEq] at h <;>
    obtain ⟨rfl, rfl⟩ := h
  case p0 => exact ⟨congrArg TableRow.op (tableRow_of_p0 hentry), rfl⟩
  case p1 => exact ⟨congrArg TableRow.op (tableRow_of_p1 hentry _), rfl⟩
  case p2 => exact ⟨congrArg TableRow.op (tableRow_of_p2 hentry _ _), rfl⟩
  case cb =>
    have hcb : opcode (cbEntry (peek (s.cpu.pc + 1) s)) = 0xCB00 + (peek (s.cpu.pc + 1) s).toNat :=
      congrArg TableRow.op (cbEntry_tableRow _)
    omega

/-! The status through an instruction (R806) -/

@[simp] theorem readR8_status (r : R8) (s : State) : (readR8 r s).2.status = s.status := by
  cases r with
  | reg x => rfl
  | mhl => exact readEffect_status _ s

@[simp] theorem writeR8_status (r : R8) (v : Byte) (s : State) : (writeR8 r v s).status = s.status := by
  cases r with
  | reg x => exact setReg_status x v s
  | mhl => exact memWrite_status _ v s

@[simp] theorem write16_status (a v : Word) (s : State) : (write16 a v s).status = s.status := by simp [write16]
@[simp] theorem push16_status (v : Word) (s : State) : (push16 v s).status = s.status := by simp [push16]
@[simp] theorem pop16_status (s : State) : (pop16 s).2.status = s.status := by simp [pop16]

@[simp] theorem aluValue_status (op : AluOp) (v : Byte) (s : State) : (aluValue op v s).status = s.status := by
  cases op <;> rfl

@[simp] theorem aluR8_status (op : AluOp) (r : R8) (s : State) : (aluR8 op r s).status = s.status := by simp [aluR8]
@[simp] theorem incR8_status (r : R8) (s : State) : (incR8 r s).status = s.status := by simp [incR8]
@[simp] theorem decR8_status (r : R8) (s : State) : (decR8 r s).status = s.status := by simp [decR8]
@[simp] theorem addHlRR_status (p : RR) (s : State) : (addHlRR p s).status = s.status := by simp [addHlRR]
@[simp] theorem incRR_status (p : RR) (s : State) : (incRR p s).status = s.status := by simp [incRR]
@[simp] theorem decRR_status (p : RR) (s : State) : (decRR p s).status = s.status := by simp [decRR]
@[simp] theorem rotAcc_status (op : RotOp) (s : State) : (rotAcc op s).status = s.status := by simp [rotAcc]
@[simp] theorem rotR8_status (op : RotOp) (r : R8) (s : State) : (rotR8 op r s).status = s.status := by simp [rotR8]
@[simp] theorem bitR8_status (b : BitIx) (r : R8) (s : State) : (bitR8 b r s).status = s.status := by simp [bitR8]
@[simp] theorem resR8_status (b : BitIx) (r : R8) (s : State) : (resR8 b r s).status = s.status := by simp [resR8]
@[simp] theorem setR8_status (b : BitIx) (r : R8) (s : State) : (setR8 b r s).status = s.status := by simp [setR8]

@[simp] theorem prefixedEntry_status (s : State) : (prefixedEntry s).status = s.status := by
  simp only [prefixedEntry, cbRule]
  split <;> simp

theorem ifCond_status (cc : Cond) {act : State → State} (s : State) (hact : (act s).status = s.status) :
    (ifCond cc act s).status = s.status := by
  unfold ifCond
  split
  · exact hact
  · rfl

@[simp] theorem callTo_status (target : Word) (s : State) : (callTo target s).status = s.status := by simp [callTo]
@[simp] theorem returnPop_status (s : State) : (returnPop s).status = s.status := by simp [returnPop]
@[simp] theorem pushQQ_status (q : QQ) (s : State) : (pushQQ q s).status = s.status := by simp [pushQQ]
@[simp] theorem popQQ_status (q : QQ) (s : State) : (popQQ q s).status = s.status := by simp [popQQ]
@[simp] theorem loadReg_status (r : Reg8) (a : Word) (s : State) : (loadReg r a s).status = s.status := by
  simp [loadReg]
@[simp] theorem stepHl_status (d : Word) (s : State) : (stepHl d s).status = s.status := by simp [stepHl]

/-- Only the opcodes without an entry and the placeholders touch the status: no operation of the others does. -/
theorem exec_status_cases (i : Instr) (s : State) :
    (i, opByte (opcode i)) ∈ noEntryOpcodes ∨ (∃ n len, (i, opByte (opcode i), len) ∈ placeholderOpcodes n) ∨
    ∃ t, exec i s = .next t ∧ t.status = s.status := by
  cases i
  case noEntryD3 | noEntryDB | noEntryDD | noEntryE3 | noEntryE4 | noEntryEB | noEntryEC | noEntryED | noEntryF4
      | noEntryFC | noEntryFD => exact .inl (by decide)
  case daa | halt | di | ei => exact .inr (.inl ⟨0, 1, by decide⟩)
  case stop n => exact .inr (.inl ⟨n, 2, List.mem_cons_of_mem _ (List.mem_cons_of_mem _ List.mem_cons_self)⟩)
  all_goals refine .inr (.inr ⟨_, rfl, ?_⟩)
  case jrNzE8 | jrZE8 | jrNcE8 | jrCE8 | jpNzA16 | jpZA16 | jpNcA16 | jpCA16 => exact ifCond_status _ s rfl
  case callNzA16 | callZA16 | callNcA16 | callCA16 => exact ifCond_status _ s (callTo_status _ s)
  case retNz | retZ | retNc | retC => exact ifCond_status _ s (returnPop_status s)
  case jrE8 | addSpE8 | ldHlSpE8 | cpl | scf | ccf => rfl
  all_goals simp

/-! How a step ends (R801, R804, R806) -/

/-- An instruction that did not complete ends its step. -/
theorem complete_of_not_ok (a0 : Word) (f : Fetched) {s : State} (h : s.status ≠ .ok) : complete a0 f s = s := by
  unfold complete
  split
  · exact absurd ‹_› h
  · rfl
  · rfl

/-- The end of a step keeps the status of the instruction (R320). -/
theorem complete_status (a0 : Word) (f : Fetched) (s : State) : (complete a0 f s).status = s.status := by
  by_cases h : s.status = .ok
  · rw [complete_of_ok a0 f h, (portKeeps_poll _).status, tickSystem, setSched_status, stepHooks_eq]
  · rw [complete_of_not_ok a0 f h]

/-- A step of a running engine whose instruction ends in a fault or a refusal ends there. -/
theorem step_of_exec_not_ok {s u : State} {i : Instr} {rest : List Byte} (hrun : Running s)
    (hdecode : decode (codeAt s) = .ok (i, rest))
    (hexec : exec i (fetchedBytes (3 - rest.length) (setTaken false s)) = .next u) (hu : u.status ≠ .ok) :
    step s = .next u := by
  obtain ⟨hinstr, hstate⟩ := fetchInstr_of_decode (s := setTaken false s) hdecode
  rw [step_eq_next_iff]
  refine ⟨hrun, ?_⟩
  simp only [runInstr, hinstr, hstate, hexec, complete_of_not_ok _ _ hu]

/-- The opcode of each of the eleven, and the size of its entry. -/
theorem noEntryOpcodes_opcode : ∀ x ∈ noEntryOpcodes, opcode x.1 = x.2.toNat ∧ (mainEntry x.2).size = 1 := by
  intro x hx
  fin_cases hx <;> exact ⟨rfl, rfl⟩

theorem placeholderOpcodes_opcode (n : Byte) : ∀ x ∈ placeholderOpcodes n,
    opcode x.1 = x.2.1.toNat ∧ (mainEntry x.2.1).size = x.2.2 := by
  simp only [placeholderOpcodes, List.forall_mem_cons]
  exact ⟨⟨rfl, rfl⟩, ⟨rfl, rfl⟩, ⟨rfl, rfl⟩, ⟨rfl, rfl⟩, ⟨rfl, rfl⟩, List.forall_mem_nil _⟩

theorem entry_size_le (e : Entry) : e.size ≤ 3 := by
  cases e <;> simp [Entry.size]

theorem raiseDecodeError_eq (op : Byte) (s : State) : raiseDecodeError op s = { s with
    status := .faulted (.decodeError (s.cpu.pc - 1) op)
    out := s.out ++ [.fault (.decodeError (s.cpu.pc - 1) op)] } := rfl

/-- After fetching `n` bytes the address `n` before PC is that of the instruction. -/
theorem fetchedBytes_pc_sub (n : Nat) (s : State) : (fetchedBytes n s).cpu.pc - BitVec.ofNat 16 n = s.cpu.pc := by
  rw [fetchedBytes_pc, BitVec.add_sub_cancel]

/-- The result of a step that raises a DecodeError: the fetch of one byte, the record and its event (R801). -/
def decodeErrorState (op : Byte) (s : State) : State :=
  let f := fetchedBytes 1 (setTaken false s)
  { f with status := .faulted (.decodeError s.cpu.pc op), out := f.out ++ [.fault (.decodeError s.cpu.pc op)] }

/-- The result of a step that is refused: the fetch of `len` bytes, the record and its event (R804). -/
def refusalState (op : Byte) (len : Nat) (s : State) : State :=
  let f := fetchedBytes len (setTaken false s)
  { f with status := .refused op, out := f.out ++ [.refusal s.cpu.pc op] }

section
variable {s : State} {i : Instr} {op : Byte} {rest : List Byte}

/-- At an opcode without an entry the step is its fetch and the DecodeError (R801). -/
theorem step_of_noEntry (hrun : Running s) (hdecode : decode (codeAt s) = .ok (i, rest))
    (hmem : (i, op) ∈ noEntryOpcodes) : step s = .next (decodeErrorState op s) ∧ peek s.cpu.pc s = op := by
  obtain ⟨hop, hsize⟩ := noEntryOpcodes_opcode _ hmem
  obtain ⟨-, hexec⟩ := noEntryOpcodes_spec _ hmem
  obtain ⟨hpeek, hrest⟩ := decode_codeAt_opcode hdecode hop
  have hlen : 3 - rest.length = 1 := by rw [hrest, hsize]; rfl
  refine ⟨step_of_exec_not_ok hrun hdecode ?_ Status.noConfusion, hpeek⟩
  have haddr : (fetchedBytes 1 (setTaken false s)).cpu.pc - 1 = s.cpu.pc := fetchedBytes_pc_sub 1 _
  rw [hlen, hexec, raiseDecodeError_eq, haddr]
  rfl

/-- At a placeholder under `Refuse` the step is its fetch and the refusal (R804). -/
theorem step_of_placeholder {n : Byte} {len : Nat} (hrun : Running s) (hdecode : decode (codeAt s) = .ok (i, rest))
    (hmem : (i, op, len) ∈ placeholderOpcodes n) (hmode : s.cfg.placeholderMode = .refuse) :
    step s = .next (refusalState op len s) ∧ peek s.cpu.pc s = op := by
  obtain ⟨hop, hsize⟩ : opcode i = op.toNat ∧ (mainEntry op).size = len := placeholderOpcodes_opcode n _ hmem
  obtain ⟨hpeek, hrest⟩ := decode_codeAt_opcode hdecode hop
  have hlen : 3 - rest.length = len := by
    rw [hrest, List.length_drop, ← hsize]
    exact Nat.sub_sub_self (entry_size_le _)
  refine ⟨step_of_exec_not_ok hrun hdecode ?_ Status.noConfusion, hpeek⟩
  rw [hlen, exec_placeholderOpcodes n _ hmem, placeholder_of_refuse _ _ (by rw [fetchedBytes_cfg]; exact hmode),
    fetchedBytes_pc_sub]
  rfl

end

/-- With three bytes to read, the decoder always answers an instruction. -/
theorem decode_codeAt (s : State) : ∃ i rest, decode (codeAt s) = .ok (i, rest) := by
  obtain ⟨i, h, -⟩ := decode_three (peek s.cpu.pc s) (peek (s.cpu.pc + 1) s) (peek (s.cpu.pc + 2) s)
  exact ⟨i, _, h⟩

/-- The status after a step is that of its instruction. -/
theorem step_status_of_exec {s t u : State} {i : Instr} {rest : List Byte} (hdecode : decode (codeAt s) = .ok (i, rest))
    (hstep : step s = .next t) (hexec : exec i (fetchedBytes (3 - rest.length) (setTaken false s)) = .next u) :
    t.status = u.status := by
  obtain ⟨-, v, hv, rfl⟩ := step_cases hstep
  obtain ⟨hinstr, hstate⟩ := fetchInstr_of_decode (s := setTaken false s) hdecode
  rw [hinstr, hstate, hexec] at hv
  obtain rfl := Host.Outcome.next.inj hv
  exact complete_status _ _ _

theorem loadCartridge_status {img : Option (List Byte)} {s t : State} (h : loadCartridge img s = .ok t) :
    t.status = s.status := by
  cases img with
  | none => cases h
  | some l =>
    obtain ⟨-, -, rfl⟩ := eq_loaded_of_ok h
    rfl

end Sys2Proof.Machine

/-- Settles O25: by the instruction at PC, which is one of the eleven, a placeholder, or one that keeps the status. -/
theorem statusAfterAStep : Obligations.StatusAfterAStep := by
  unfold Obligations.StatusAfterAStep
  intro s t hstep
  obtain ⟨hrun, -⟩ := (step_eq_next_iff s t).mp hstep
  obtain ⟨i, rest, hdecode⟩ := decode_codeAt s
  let fetched := fetchedBytes (3 - rest.length) (setTaken false s)
  have hfetched : fetched.status = .ok := (fetchedBytes_status _ _).trans hrun.1
  obtain hmem | ⟨n, len, hmem⟩ | ⟨u, hexec, hu⟩ := exec_status_cases i fetched
  case inl =>
    obtain ⟨hfault, hpeek⟩ := step_of_noEntry hrun hdecode hmem
    obtain rfl := Host.Outcome.next.inj (hstep.symm.trans hfault)
    exact .inr (.inl ⟨_, List.mem_map_of_mem (f := Prod.snd) hmem, hpeek, rfl⟩)
  case inr.inl =>
    cases hmode : s.cfg.placeholderMode with
    | refuse =>
      obtain ⟨hrefused, hpeek⟩ := step_of_placeholder hrun hdecode hmem hmode
      obtain rfl := Host.Outcome.next.inj (hstep.symm.trans hrefused)
      exact .inr (.inr ⟨rfl, _, List.mem_map_of_mem (f := fun x => x.2.1) hmem, hpeek, rfl⟩)
    | sourceNop =>
      have hmode' : fetched.cfg.placeholderMode = .sourceNop := by rw [fetchedBytes_cfg]; exact hmode
      have hexec : exec i fetched = .next fetched :=
        (exec_placeholderOpcodes n _ hmem fetched).trans (congrArg _ (placeholder_of_sourceNop _ _ hmode'))
      exact .inl ((step_status_of_exec hdecode hstep hexec).trans hfetched)
  case inr.inr => exact .inl ((step_status_of_exec hdecode hstep hexec).trans (hu.trans hfetched))

/-- Settles O26: at such an opcode the step is its fetch and the recorded outcome, which every later step answers, and
no port writes the status. -/
theorem abnormalStepsAreFinal : Obligations.AbnormalStepsAreFinal := by
  unfold Obligations.AbnormalStepsAreFinal
  refine ⟨?decodeError, ?refusal, fun s hs => ⟨?noStep, fun on => processEvents_status on s hs,
    fun c => (portKeeps_applyCall c s).status, fun _ => rfl, fun _ _ => loadCartridge_status⟩⟩
  case decodeError =>
    intro s i op rest hrun hdecode hmem f t
    exact ⟨(step_of_noEntry hrun hdecode hmem).1, step_of_faulted (f := .decodeError s.cpu.pc op) rfl⟩
  case refusal =>
    intro s i op n len rest hrun hdecode hmem hmode f t
    exact ⟨(step_of_placeholder hrun hdecode hmem hmode).1, rfl⟩
  case noStep =>
    intro t hstep
    obtain ⟨⟨hok, -⟩, -⟩ := (step_eq_next_iff s t).mp hstep
    exact hs hok

/-- Settles O2: the guards of `construct` and `loadCartridge`, one after the other. -/
theorem loadErrors : Obligations.LoadErrors := by
  unfold Obligations.LoadErrors
  refine ⟨fun _ _ => rfl, fun boot p cfg hlen => ?badLength,
    fun boot p cfg hlen => ⟨constructed boot p cfg, ?constructs⟩, fun _ => rfl,
    fun img s hshort => ?tooShort, fun img s hlen hcode => ?badCode,
    fun img s hlen hcode => ⟨setMem (loadedBus img s.mem) s, ?loads⟩⟩
  case badLength => rw [construct_some, if_neg hlen]
  case constructs => rw [construct_some, if_pos hlen]
  case tooShort => rw [loadCartridge_some, if_pos hshort]
  case badCode => rw [loadCartridge_some, if_neg (Nat.not_lt.mpr hlen), if_pos hcode]
  case loads => rw [loadCartridge_some, if_neg (Nat.not_lt.mpr hlen), if_neg (Nat.not_lt.mpr hcode)]

end

section
/-! PROOFS. The scheduler and the host ports (60_exceptions.md): the polling loop (R824), adding, ticking and asking
(R820 to R822, R825), one fired event (R802, R823, R827), and callbacks as lists of port calls (R826). -/

open Sys2Proof Sys2Proof.Machine

namespace Sys2Proof.Machine

/-! The polling loop (R824) -/

theorem isEventPending_pollWith (h : PollingHost) (s : State) : isEventPending (pollWith h s) = false := by
  rw [pollWith_eq_pollLoop]
  exact h.ends s

/-- The polling is its loop unrolled once; the turns the host gives before and after the first do not matter. -/
theorem pollWith_unroll (h : PollingHost) (s : State) :
    pollWith h s = if isEventPending s then pollWith h (processEvents h.onEvent s) else s := by
  by_cases hp : isEventPending s = true
  · let s' := processEvents h.onEvent s
    have hturn : pollLoop h.onEvent (h.turns s' + 1) s = pollLoop h.onEvent (h.turns s') s' := if_pos hp
    have hends : isEventPending (pollLoop h.onEvent (h.turns s' + 1) s) = false := by
      rw [hturn]
      exact h.ends s'
    rw [if_pos hp, pollWith_eq_pollLoop, pollWith_eq_pollLoop, ← hturn]
    exact pollLoop_unique _ _ _ s (h.ends s) hends
  · rw [pollWith, if_neg hp, if_neg hp]

/-- With as many turns as events are due, a host that adds none due at once ends the loop. -/
theorem laterOnly_ends (on : OnEvent) (hon : ∀ s id, laterOnly (on s id)) (n : Nat) (s : State) (hn : dueCount s ≤ n) :
    isEventPending (pollLoop on n s) = false := by
  induction n generalizing s with
  | zero => exact isEventPending_of_dueCount s (Nat.le_zero.mp hn)
  | succ n ih =>
    unfold pollLoop
    split
    · have hfired := dueCount_processEvents on hon s ‹_›
      exact ih _ (by omega)
    · exact Bool.eq_false_of_not_eq_true ‹_›

/-- A host that adds no event due at once. -/
def PollingHost.ofLaterOnly (on : OnEvent) (hon : ∀ s id, laterOnly (on s id)) : PollingHost where
  onEvent := on
  turns := dueCount
  ends := fun s => laterOnly_ends on hon _ s (Nat.le_refl _)

/-- A completed step ends with its polling. -/
theorem isEventPending_step {s t : State} (h : step s = .next t) (hok : t.status = .ok) : isEventPending t = false := by
  obtain ⟨-, u, -, rfl⟩ := step_cases h
  rw [complete_status] at hok
  rw [complete_of_ok _ _ hok]
  exact poll_done _

/-! Adding, ticking and asking (R820 to R822) -/

/-- The head of a sorted queue has the least trigger (R118). -/
theorem head_trigger_le {e x : SchedEvent} {rest : List SchedEvent}
    (h : (e :: rest).Pairwise (fun x y => x.trigger ≤ y.trigger)) (hx : x ∈ e :: rest) : e.trigger ≤ x.trigger := by
  obtain rfl | hx := List.mem_cons.mp hx
  · exact Nat.le_refl _
  · exact List.rel_of_pairwise_cons h hx

theorem isEventPending_iff {s : State} (h : s.sched.queue.Pairwise (fun x y => x.trigger ≤ y.trigger)) :
    isEventPending s = true ↔ ∃ e ∈ s.sched.queue, e.trigger ≤ s.sched.now := by
  unfold isEventPending
  split
  case h_1 hq => simp [hq]
  case h_2 e rest hq =>
    rw [hq] at h ⊢
    rw [decide_eq_true_eq]
    constructor
    · exact fun hdue => ⟨e, List.mem_cons_self, hdue⟩
    · rintro ⟨x, hx, hdue⟩
      exact (head_trigger_le h hx).trans hdue

/-- `get_m_cycles` is a quarter of `now`, rounded down (R825). -/
theorem getMCycles_bounds (s : State) : getMCycles s * 4 ≤ s.sched.now ∧ s.sched.now < (getMCycles s + 1) * 4 := by
  unfold getMCycles
  omega

/-- A breakpoint port sets the bit of its address and keeps every other (R831). -/
theorem mem_setBp_iff (a : Word) (e : Bool) (l : List Nat) (x : Nat) :
    x ∈ setBp a e l ↔ if x = a.toNat then e = true else x ∈ l := by
  rw [setBp_mem]
  by_cases h : x = a.toNat <;> simp [h]

/-! One fired event (R802, R823) -/

/-- What `process_events` does on a queue that is not empty: one event of the tie at its head fires. -/
theorem processEvents_cons (on : OnEvent) {s : State} {e : SchedEvent} {rest : List SchedEvent}
    (hq : s.sched.queue = e :: rest) : ∃ i, i < tieCount (e :: rest) ∧
      processEvents on s = runCallback on ((e :: rest).getD i e).id (fireEvent ((e :: rest).getD i e) i s) :=
  ⟨tieIndex s.ties (tieCount (e :: rest)), tieIndex_lt _ _ (tieCount_pos e rest), by simp only [processEvents, hq]⟩

theorem processEvents_nil (on : OnEvent) {s : State} (hq : s.sched.queue = []) :
    processEvents on s = raiseUnderflow s := by
  simp only [processEvents, hq]

/-- The event at a place of a queue, and the queue without it. -/
theorem getD_cons_eraseIdx_perm (e : SchedEvent) (q : List SchedEvent) (i : Nat) (h : i < q.length) :
    (q.getD i e :: q.eraseIdx i).Perm q := by
  rw [List.getD_eq_getElem _ _ h]
  exact List.getElem_cons_eraseIdx_perm h

/-- On a sorted queue the event that fires has the least trigger, due or not. -/
theorem processEvents_fires_least (on : OnEvent) (s : State) (hne : s.sched.queue ≠ [])
    (hsorted : s.sched.queue.Pairwise (fun x y => x.trigger ≤ y.trigger)) :
    ∃ e q ties, (e :: q).Perm s.sched.queue ∧ (∀ x ∈ s.sched.queue, e.trigger ≤ x.trigger) ∧
      processEvents on s = runCallback on e.id { s with
        sched := { s.sched with queue := q }
        out := s.out ++ [.eventFired e.id e.trigger s.sched.now]
        ties := ties } := by
  obtain ⟨e, rest, hq⟩ := List.exists_cons_of_ne_nil hne
  obtain ⟨i, hi, hfire⟩ := processEvents_cons on hq
  rw [hq] at hsorted ⊢
  refine ⟨(e :: rest).getD i e, (e :: rest).eraseIdx i, (fireEvent ((e :: rest).getD i e) i s).ties,
    getD_cons_eraseIdx_perm e _ i (hi.trans_le (tieCount_le _)), fun x hx => ?least, ?fire⟩
  case least =>
    rw [tie_trigger e rest i hi]
    exact head_trigger_le hsorted hx
  case fire => rw [hfire, fireEvent, hq, emit]

/-- A single queued event fires, and leaves the queue empty. -/
theorem processEvents_singleton (on : OnEvent) {s : State} {now : Nat} {e : SchedEvent}
    (hs : s.sched = { now := now, queue := [e] }) : processEvents on s = runCallback on e.id { s with
      sched := { now := now, queue := [] }
      out := s.out ++ [.eventFired e.id e.trigger now] } := by
  obtain ⟨i, hi, hfire⟩ := processEvents_cons on (s := s) (e := e) (rest := []) (by rw [hs])
  obtain rfl : i = 0 := Nat.lt_one_iff.mp hi
  rw [hfire, fireEvent, hs]
  rfl

/-! Callbacks (R826) -/

/-- What port calls keep beside `PortKeeps`: they emit nothing, run no callback, and take no event out of the queue. -/
structure CallKeeps (s t : State) : Prop where
  out : t.out = s.out
  callbacks : t.callbacks = s.callbacks
  queue : s.sched.queue ⊆ t.sched.queue

theorem CallKeeps.refl (s : State) : CallKeeps s s := ⟨rfl, rfl, List.Subset.refl _⟩

theorem CallKeeps.trans {s t u : State} (h : CallKeeps s t) (g : CallKeeps t u) : CallKeeps s u :=
  ⟨g.out.trans h.out, g.callbacks.trans h.callbacks, List.Subset.trans h.queue g.queue⟩

theorem callKeeps_setBank (region : BankRegion) (k : Nat) (s : State) : CallKeeps s (setBank region k s) := by
  by_cases h : region.InRange k s
  · rw [setBank_of_inRange h]
    exact ⟨rfl, rfl, List.Subset.refl _⟩
  · rw [setBank_of_not_inRange h]
    exact CallKeeps.refl s

theorem callKeeps_addEvent (delay id : Nat) (s : State) : CallKeeps s (addEvent delay id s) :=
  ⟨rfl, rfl, fun _ he => (insertEvent_perm _ _).mem_iff.mpr (List.mem_cons_of_mem _ he)⟩

theorem callKeeps_applyCall (c : HostCall) (s : State) : CallKeeps s (applyCall c s) := by
  cases c with
  | addEvent delay id => exact callKeeps_addEvent delay id s
  | setBank region k => exact callKeeps_setBank region k s
  | setReadBp a e => exact ⟨rfl, rfl, List.Subset.refl _⟩
  | setWriteBp a e => exact ⟨rfl, rfl, List.Subset.refl _⟩
  | setCodeBp a e => exact ⟨rfl, rfl, List.Subset.refl _⟩

theorem callKeeps_applyCalls (cs : List HostCall) (s : State) : CallKeeps s (applyCalls cs s) := by
  induction cs generalizing s with
  | nil => exact CallKeeps.refl s
  | cons c rest ih => exact (callKeeps_applyCall c s).trans (ih _)

/-- A callback makes its port calls on a state that differs in the count of callbacks only. -/
theorem callKeeps_runCallback (on : OnEvent) (id : Nat) (s : State) :
    CallKeeps (setCallbacks (s.callbacks + 1) s) (runCallback on id s) :=
  callKeeps_applyCalls _ _

theorem applyCalls_eq_foldl (cs : List HostCall) (s : State) :
    applyCalls cs s = cs.foldl (fun u c => applyCall c u) s := by
  induction cs generalizing s with
  | nil => rfl
  | cons c rest ih => exact ih _

end Sys2Proof.Machine

/-- Settles O24: two numbers of turns that end the loop end it in the same state, so the loop can be unrolled, and a
host that adds no event due at once needs as many turns as events are due. -/
theorem noEventIsDueAfterAStep : Obligations.NoEventIsDueAfterAStep := by
  unfold Obligations.NoEventIsDueAfterAStep
  exact ⟨fun h s => ⟨pollWith_unroll h s, isEventPending_pollWith h s⟩,
    fun s => ⟨pollWith_unroll host s, isEventPending_pollWith host s⟩,
    fun on hon => ⟨.ofLaterOnly on fun s id d id' => hon s id d id', rfl⟩,
    fun _ _ => isEventPending_step⟩

/-- Settles O29: each port is its equation; the queue grows by one event, and on a sorted queue the head decides. -/
theorem hostPorts : Obligations.HostPorts := by
  unfold Obligations.HostPorts
  exact ⟨fun delay id s => ⟨_, rfl, insertEvent_perm _ _, (portKeeps_addEvent delay id s).inv⟩, fun _ _ => rfl,
    fun _ => isEventPending_iff, fun s => ⟨rfl, getMCycles_bounds s⟩, fun a e s => ⟨⟨_, rfl, mem_setBp_iff a e _⟩,
      ⟨_, rfl, mem_setBp_iff a e _⟩, ⟨_, rfl, mem_setBp_iff a e _⟩⟩⟩

/-- Settles O30: an empty queue is SchedulerUnderflow, a sorted one fires an event of the tie at its head, and the
example of R827 has a single event. -/
theorem processEventsFiresOne : Obligations.ProcessEventsFiresOne := by
  unfold Obligations.ProcessEventsFiresOne
  refine ⟨fun on s hq => ?empty, processEvents_fires_least, ?sourceExample⟩
  case empty => rw [processEvents_nil on hq, raiseUnderflow_eq]
  case sourceExample =>
    intro on id s hs s2 s3 s4 fired
    have hs2 : s2 = { s with sched := { now := 5, queue := [⟨10, id⟩] } } := by
      simp only [s2, tickSystem, addEvent, hs, insertEvent, setSched]
    have hs3 : s3 = { s with sched := { now := 10, queue := [⟨10, id⟩] } } := by
      simp only [s3, hs2, tickSystem, setSched]
    have hs4 : s4 = runCallback on id fired := by
      simp only [s4]
      rw [processEvents_singleton on (e := ⟨10, id⟩) (now := 10) (by rw [hs3]), hs3]
    refine ⟨by rw [hs2]; rfl, by rw [hs3]; rfl, hs4, ?out, fun hcalls => ?quiet⟩
    case out =>
      rw [hs4]
      exact (callKeeps_runCallback on id fired).out
    case quiet =>
      have hquiet : s4 = setCallbacks (fired.callbacks + 1) fired := by rw [hs4, runCallback, hcalls, applyCalls]
      rw [hquiet]
      exact ⟨rfl, rfl⟩

/-- Settles O31: `applyCalls` is the fold of the port calls, and each of them keeps what `PortKeeps` and `CallKeeps`
say. -/
theorem callbacksUseHostPortsOnly : Obligations.CallbacksUseHostPortsOnly := by
  unfold Obligations.CallbacksUseHostPortsOnly
  intro on id s t
  have hport : PortKeeps s t := portKeeps_runCallback on id s
  have hcall : CallKeeps (setCallbacks (s.callbacks + 1) s) t := callKeeps_runCallback on id s
  refine ⟨?fold, hport.cpu, hport.status, hport.cfg, hport.now, hport.cells, hport.bootBound, hport.romBanks,
    hcall.out, hcall.callbacks, hport.inv, fun _ he => hcall.queue he⟩
  case fold =>
    refine (applyCalls_eq_foldl _ _).trans (congrArg (List.foldl · _ _) ?_)
    funext u c
    cases c <;> rfl

end

section
/-! PROOFS. The round trip of the encoder and the decoder (30_encoding.md R300 to R316), in both directions. -/

open Sys2Proof Sys2Proof.Machine

namespace Sys2Proof

/-! Decoding what was encoded -/

/-- The rows with an immediate assemble it from the bytes it is encoded as; a row without one is its opcode bytes. Only
the bare prefix reads on (R706). -/
theorem decode_encode_append {i : Instr} (hi : i ≠ .cbPrefix) (rest : List Byte) :
    decode (encode i ++ rest) = .ok (i, rest) := by
  cases i with
  | ldBcD16 nn => exact Laws.RoundTrip.ldBcD16 nn rfl rest
  | ldMa16Sp nn => exact Laws.RoundTrip.ldMa16Sp nn rfl rest
  | ldDeD16 nn => exact Laws.RoundTrip.ldDeD16 nn rfl rest
  | ldHlD16 nn => exact Laws.RoundTrip.ldHlD16 nn rfl rest
  | ldSpD16 nn => exact Laws.RoundTrip.ldSpD16 nn rfl rest
  | jpNzA16 nn => exact Laws.RoundTrip.jpNzA16 nn rfl rest
  | jpA16 nn => exact Laws.RoundTrip.jpA16 nn rfl rest
  | callNzA16 nn => exact Laws.RoundTrip.callNzA16 nn rfl rest
  | jpZA16 nn => exact Laws.RoundTrip.jpZA16 nn rfl rest
  | callZA16 nn => exact Laws.RoundTrip.callZA16 nn rfl rest
  | callA16 nn => exact Laws.RoundTrip.callA16 nn rfl rest
  | jpNcA16 nn => exact Laws.RoundTrip.jpNcA16 nn rfl rest
  | callNcA16 nn => exact Laws.RoundTrip.callNcA16 nn rfl rest
  | jpCA16 nn => exact Laws.RoundTrip.jpCA16 nn rfl rest
  | callCA16 nn => exact Laws.RoundTrip.callCA16 nn rfl rest
  | ldMa16A nn => exact Laws.RoundTrip.ldMa16A nn rfl rest
  | ldAMa16 nn => exact Laws.RoundTrip.ldAMa16 nn rfl rest
  | ldBD8 n => exact Laws.RoundTrip.ldBD8 n rfl rest
  | ldCD8 n => exact Laws.RoundTrip.ldCD8 n rfl rest
  | stop n => exact Laws.RoundTrip.stop n rfl rest
  | ldDD8 n => exact Laws.RoundTrip.ldDD8 n rfl rest
  | jrE8 n => exact Laws.RoundTrip.jrE8 n rfl rest
  | ldED8 n => exact Laws.RoundTrip.ldED8 n rfl rest
  | jrNzE8 n => exact Laws.RoundTrip.jrNzE8 n rfl rest
  | ldHD8 n => exact Laws.RoundTrip.ldHD8 n rfl rest
  | jrZE8 n => exact Laws.RoundTrip.jrZE8 n rfl rest
  | ldLD8 n => exact Laws.RoundTrip.ldLD8 n rfl rest
  | jrNcE8 n => exact Laws.RoundTrip.jrNcE8 n rfl rest
  | ldMhlD8 n => exact Laws.RoundTrip.ldMhlD8 n rfl rest
  | jrCE8 n => exact Laws.RoundTrip.jrCE8 n rfl rest
  | ldAD8 n => exact Laws.RoundTrip.ldAD8 n rfl rest
  | addAD8 n => exact Laws.RoundTrip.addAD8 n rfl rest
  | adcAD8 n => exact Laws.RoundTrip.adcAD8 n rfl rest
  | subD8 n => exact Laws.RoundTrip.subD8 n rfl rest
  | sbcAD8 n => exact Laws.RoundTrip.sbcAD8 n rfl rest
  | ldhMa8A n => exact Laws.RoundTrip.ldhMa8A n rfl rest
  | andD8 n => exact Laws.RoundTrip.andD8 n rfl rest
  | addSpE8 n => exact Laws.RoundTrip.addSpE8 n rfl rest
  | xorD8 n => exact Laws.RoundTrip.xorD8 n rfl rest
  | ldhAMa8 n => exact Laws.RoundTrip.ldhAMa8 n rfl rest
  | orD8 n => exact Laws.RoundTrip.orD8 n rfl rest
  | ldHlSpE8 n => exact Laws.RoundTrip.ldHlSpE8 n rfl rest
  | cpD8 n => exact Laws.RoundTrip.cpD8 n rfl rest
  | cbPrefix => exact absurd rfl hi
  | _ => rfl

theorem ne_cbPrefix_of_wellFormed {i : Instr} (h : i.wellFormed = true) : i ≠ .cbPrefix := by
  rintro rfl
  cases h

/-! Encoding what was decoded -/

theorem encode_of_main {op : Byte} {i : Instr} {imms : List Byte} (h : i.tableRow = mainTableRow op.toNat imms) :
    encode i = op :: imms := by
  obtain ⟨hop, himms⟩ : opcode i = op.toNat ∧ immBytes i = imms :=
    ⟨congrArg TableRow.op h, congrArg TableRow.imms h⟩
  rw [encode, hop, himms, opcodeBytes, if_pos op.isLt, BitVec.ofNat_toNat, BitVec.setWidth_eq]
  rfl

theorem encode_cbEntry (op2 : Byte) : encode (cbEntry op2) = [0xCB, op2] := by
  have h := cbEntry_tableRow op2
  obtain ⟨hop, himms⟩ : opcode (cbEntry op2) = 0xCB00 + op2.toNat ∧ immBytes (cbEntry op2) = [] :=
    ⟨congrArg TableRow.op h, congrArg TableRow.imms h⟩
  have hhi : (0xCB00 + op2.toNat) / 0x100 = 0xCB := by omega
  have hlo : BitVec.ofNat 8 (0xCB00 + op2.toNat) = op2 := by
    apply BitVec.eq_of_toNat_eq
    rw [BitVec.toNat_ofNat]
    omega
  rw [encode, hop, himms, opcodeBytes, if_neg (by omega), hhi, hlo]
  rfl

/-- 0xCB is the only opcode byte of the primary map without an instruction of its own (R706). -/
theorem eq_prefix_of_mainEntry_cb {op : Byte} (h : mainEntry op = .cb) : op = 0xCB := by
  have hall : ∀ b : Byte, (mainEntry b).instr? 0 0 = none → b = 0xCB := by decide
  exact hall op (by rw [h]; rfl)

/-- All that the decoder can read: a row of the primary map with its immediates, the prefix with a CB opcode, or the
prefix alone. -/
theorem decode_cases {bytes rest : List Byte} {i : Instr} (h : decode bytes = .ok (i, rest)) :
    (∃ op imms, bytes = op :: (imms ++ rest) ∧
      ∃ n nn, (mainEntry op).instr? n nn = some i ∧ (mainEntry op).imms? n nn = some imms) ∨
    (∃ op2, bytes = 0xCB :: op2 :: rest ∧ i = cbEntry op2) ∨
    (bytes = [0xCB] ∧ rest = [] ∧ i = .cbPrefix) := by
  obtain _ | ⟨op, tail⟩ := bytes
  · cases h
  simp only [decode] at h
  cases hentry : mainEntry op with
  | p0 j =>
    simp only [hentry, Except.ok.injEq, Prod.mk.injEq] at h
    obtain ⟨rfl, rfl⟩ := h
    exact .inl ⟨op, [], rfl, 0, 0, by rw [hentry]; exact ⟨rfl, rfl⟩⟩
  | p1 f =>
    obtain _ | ⟨n, tail⟩ := tail <;> simp only [hentry, reduceCtorEq, Except.ok.injEq, Prod.mk.injEq] at h
    obtain ⟨rfl, rfl⟩ := h
    exact .inl ⟨op, [n], rfl, n, 0, by rw [hentry]; exact ⟨rfl, rfl⟩⟩
  | p2 f =>
    obtain _ | ⟨lo, _ | ⟨hi, tail⟩⟩ := tail <;> simp only [hentry, reduceCtorEq, Except.ok.injEq, Prod.mk.injEq] at h
    obtain ⟨rfl, rfl⟩ := h
    refine .inl ⟨op, [lo, hi], rfl, 0, joinBytes hi lo, ?_⟩
    rw [hentry, Entry.imms?, loByte_joinBytes, hiByte_joinBytes]
    exact ⟨rfl, rfl⟩
  | cb =>
    obtain rfl := eq_prefix_of_mainEntry_cb hentry
    obtain _ | ⟨op2, tail⟩ := tail <;> simp only [hentry, Except.ok.injEq, Prod.mk.injEq] at h <;>
      obtain ⟨rfl, rfl⟩ := h
    · exact .inr (.inr ⟨rfl, rfl, rfl⟩)
    · exact .inr (.inl ⟨op2, rfl, rfl⟩)

theorem tableRow_of_instr? {op n : Byte} {nn : Word} {i : Instr} {imms : List Byte}
    (hi : (mainEntry op).instr? n nn = some i) (himms : (mainEntry op).imms? n nn = some imms) :
    i.tableRow = mainTableRow op.toNat imms := by
  simpa [hi, himms] using mainEntry_tableRow op n nn

theorem encode_of_decode {bytes rest : List Byte} {i : Instr} (h : decode bytes = .ok (i, rest)) :
    encode i ++ rest = bytes := by
  obtain ⟨op, imms, rfl, n, nn, hi, himms⟩ | ⟨op2, rfl, rfl⟩ | ⟨rfl, rfl, rfl⟩ := decode_cases h
  · rw [encode_of_main (tableRow_of_instr? hi himms)]
    rfl
  · rw [encode_cbEntry]
    rfl
  · rfl

/-- Every instruction but the bare prefix stands in one of the two maps (R315, R316). -/
theorem exists_entry {i : Instr} (hi : i ≠ .cbPrefix) :
    (∃ op n nn, (mainEntry op).instr? n nn = some i ∧ opcode i = op.toNat) ∨ ∃ op2, i = cbEntry op2 := by
  obtain ⟨op, imms, -, n, nn, hinstr, himms⟩ | ⟨op2, -, h⟩ | ⟨-, -, h⟩ := decode_cases (decode_encode_append hi [])
  · exact .inl ⟨op, n, nn, hinstr, congrArg TableRow.op (tableRow_of_instr? hinstr himms)⟩
  · exact .inr ⟨op2, h⟩
  · exact absurd h hi

end Sys2Proof

/-- Settles O14: of the instructions only the bare prefix, which is not well formed, reads on. -/
theorem decodeEncodeRoundTrip : Obligations.DecodeEncodeRoundTrip := by
  unfold Obligations.DecodeEncodeRoundTrip
  exact fun _ rest hwf => decode_encode_append (ne_cbPrefix_of_wellFormed hwf) rest

/-- Settles O15: whatever the decoder reads, every entry of the two maps stands at its own opcode. -/
theorem encodeOfDecoded : Obligations.EncodeOfDecoded := by
  unfold Obligations.EncodeOfDecoded
  exact fun _ _ _ => encode_of_decode

/-- Settles O17: the decoder run on each of the fifteen words. -/
theorem wordsOfTheSpecDecode : Obligations.WordsOfTheSpecDecode := by
  unfold Obligations.WordsOfTheSpecDecode
  exact ⟨rfl, rfl, rfl, rfl, rfl, rfl, rfl, rfl, rfl, rfl, rfl, rfl, rfl, rfl, rfl⟩

end

section
/-! PROOFS. The machine after reset (10_state.md R120, notes/assumptions/3.md), and what a write leaves readable
(20_memory.md R246, 44_control.md R622). -/

open Sys2Proof Sys2Proof.Machine

namespace Sys2Proof.Machine

/-! The machine of zero parameters and images -/

/-- The open parameters of construction, all zero (notes/assumptions/1.md, 2.md). -/
def zeroParams : InitParams := ⟨0, 0, 0, 0, 0, 0, 0, 0, 0, [], 0⟩

/-- Zero bytes are what unlisted keys read as, so storing them into empty storage stores nothing. -/
theorem constructedCells_zero : constructedCells (List.replicate 256 0) zeroParams = [] := by
  have hly : cellsPut (ramCells zeroParams.ramInit) (cellKey 0 0xFF44) zeroParams.lyInit = [] :=
    cellsPut_nil_unlisted _
  rw [constructedCells, hly]
  exact cellsPutList_nil_unlisted 256 _

theorem imageBanks_zero : imageBanks (List.replicate 0x8000 0) = 2 := by
  rw [imageBanks, List.getD_replicate _ (by decide)]
  rfl

/-- Every chunk the zero cartridge holds is zero bytes (R230). -/
theorem romChunk_zero : romChunk (List.replicate 0x8000 0) 1 = List.replicate 0x4000 0 := by
  rw [romChunk, if_pos (by rw [List.length_replicate]), List.drop_replicate, List.take_replicate]
  rfl

theorem loadedCells_zero : loadedCells (List.replicate 0x8000 0) [] = [] := by
  rw [loadedCells, imageBanks_zero, List.take_replicate]
  have hrom0 : cellsPutList [] (cellKey 0 0x0000) (List.replicate (min 0x4000 0x8000) 0) = [] :=
    cellsPutList_nil_unlisted _ _
  rw [hrom0, loadChunks, loadChunks, romChunk_zero]
  exact cellsPutList_nil_unlisted _ _

theorem inv_reset : Inv State.reset where
  cells := rfl
  romBanks := Nat.le_refl 2
  romBank := ⟨Nat.le_refl 1, Nat.le_refl 2⟩
  eramBank := Nat.one_pos
  wramBank := Nat.one_pos
  queue := .nil
  rdBp := .nil
  wrBp := .nil
  codeBp := .nil
  halted := rfl
  stopped := rfl

/-! Read after write (R246) -/

/-- Below 0x8000 a write is bank control, which `RomOnly` ignores, and an unmapped address stores nothing. -/
theorem memWrite_mem_of_not_stored {a : Word} (v : Byte) (s : State) (h : ¬isStored a) :
    (memWrite a v s).mem = s.mem := by
  by_cases hrom : a.toNat ≤ 0x7FFF
  · rw [memWrite_mem, if_pos hrom]
  · refine memWrite_mem_of_unmapped v s ?_
    unfold isStored at h
    unfold isUnmapped
    omega

/-! PUSH then POP (R622) -/

/-- A pair written back what it was read as is unchanged; F has no bits but its flags (R103). -/
theorem setPair_pair_cpu (q : QQ) (s t : State) (h : t.cpu = s.cpu) :
    (setPair (qqPair q) (pair (qqPair q) s) t).cpu = s.cpu := by
  cases q <;> simp [qqPair, setPair, pair, setReg, setFlags, h]

theorem popQQ_pushQQ_cpu (q : QQ) {s : State} (hwf : Memory.wf s.mem.cells = true) (hhi : isStored (s.cpu.sp - 1))
    (hlo : isStored (s.cpu.sp - 2)) : (popQQ q (pushQQ q s)).cpu = s.cpu := by
  have hback : s.cpu.sp - 1 - 1 + 1 + 1 = s.cpu.sp := by bv_omega
  have hcpu : (pop16 (pushQQ q s)).2.cpu = s.cpu := by rw [pop16_cpu, pushQQ, push16_cpu, hback]
  rw [popQQ, pushQQ, pop16_push16 _ hwf hhi hlo]
  exact setPair_pair_cpu q s _ hcpu

end Sys2Proof.Machine

/-- Settles O3: storing zeros into empty storage stores nothing, so the two images leave the storage of reset. -/
theorem resetIsTheZeroMachine : Obligations.ResetIsTheZeroMachine := by
  unfold Obligations.ResetIsTheZeroMachine
  refine ⟨constructed (List.replicate 256 0) zeroParams Config.default, ?construct, ?load⟩
  case construct => exact (construct_some _ zeroParams _).trans (if_pos List.length_replicate)
  case load =>
    have hcode : ((List.replicate 0x8000 (0 : Byte)).getD 0x0148 0).toNat = 0 := by
      rw [List.getD_replicate _ (by decide)]
      rfl
    rw [loadCartridge_some, if_neg (by rw [List.length_replicate]; decide), if_neg (by rw [hcode]; decide), loadedBus,
      imageBanks_zero, constructed, constructedCells_zero, loadedCells_zero]
    rfl

/-- Settles O4: every list of the machine after reset is empty, and every selector at its least value. -/
theorem resetMeetsTheInvariant : Obligations.ResetMeetsTheInvariant := inv_reset

/-- Settles O10: a stored address has a backing byte of its own; a write anywhere else stores nothing. -/
theorem readAfterWrite : Obligations.ReadAfterWrite := by
  unfold Obligations.ReadAfterWrite
  refine fun a v s hwf => ⟨fun ha => peek_memWrite_same a v s ha hwf, fun b hb => peek_memWrite_ne a b v s hb,
    fun ha => ?notStored, cellsGet_memWrite_ne a v s⟩
  case notStored => rw [peek, memWrite_mem_of_not_stored v s ha, peek]

/-- Settles O50: the word pushed pops back, and SP moves down and up by two. -/
theorem pushThenPopRestores : Obligations.PushThenPopRestores := by
  unfold Obligations.PushThenPopRestores
  exact fun q s hwf hhi hlo =>
    ⟨_, _, exec_ofPush q s, exec_ofPop q (pushQQ q s), popQQ_pushQQ_cpu q hwf hhi hlo⟩

end

section
/-! PROOFS. One step (30_encoding.md R320): the fetch, then the instruction, then its end. What each keeps of the
invariant (10_state.md) and of the overlay (20_memory.md R211), what the step charges (70_reset_and_hazards.md
R921), and the table of costs (R920, R922, R923). -/

open Sys2Proof Sys2Proof.Machine

namespace Sys2Proof.Machine

/-! The fetch (R107, R320) -/

theorem fetchedBytes_cpu (n : Nat) (s : State) :
    (fetchedBytes n s).cpu = { s.cpu with pc := s.cpu.pc + BitVec.ofNat 16 n } := by
  have hpc := fetchedBytes_pc n s
  suffices hrest : ∃ pc, (fetchedBytes n s).cpu = { s.cpu with pc := pc } by
    obtain ⟨pc, h⟩ := hrest
    rw [h] at hpc ⊢
    rw [← hpc]
  clear hpc
  induction n generalizing s with
  | zero => exact ⟨s.cpu.pc, rfl⟩
  | succ n ih =>
    obtain ⟨pc, h⟩ := ih (fetchByte s).2
    exact ⟨pc, by rw [fetchedBytes, h]; simp [fetchByte, setPc]⟩

theorem fetchedBytes_cells (n : Nat) (s : State) : (fetchedBytes n s).mem.cells = s.mem.cells := by
  induction n generalizing s with
  | zero => rfl
  | succ n ih => exact (ih _).trans (by simp [fetchByte])

/-- What a step fetches, when the bytes at PC decode to `i`. -/
theorem fetchInstr_eq {s : State} {i : Instr} {rest : List Byte} (h : decode (codeAt s) = .ok (i, rest)) :
    fetchInstr s = { instr := i, op := opcode i, imms := immBytes i, state := fetchedBytes (3 - rest.length) s } := by
  obtain ⟨rfl, hstate⟩ := fetchInstr_of_decode h
  obtain ⟨hop, himms⟩ := fetchInstr_encoding s
  rw [← hop, ← himms, ← hstate]

theorem keeps_fetchInstr_of_fetchByte (s : State) : Keeps (fetchByte s).2 (fetchInstr s).state := by
  simp only [fetchInstr]
  split
  · exact Keeps.refl _
  · exact keeps_fetchByte _
  · exact (keeps_fetchByte _).trans (keeps_fetchByte _)
  · exact keeps_fetchByte _

/-! The end of a step (R320, R801, R804) -/

/-- What the end of a step keeps: hooks, tick and polling touch neither the cpu nor the overlay, and emit no unbind. -/
structure EndKeeps (s t : State) : Prop where
  cpu : t.cpu = s.cpu
  bootBound : t.mem.bootBound = s.mem.bootBound
  unbind : unbindSum t = unbindSum s
  inv : Inv s → Inv t

theorem endKeeps_complete (a0 : Word) (f : Fetched) (s : State) : EndKeeps s (complete a0 f s) := by
  by_cases hok : s.status = .ok
  · have hhooks := keeps_stepHooks a0 f s
    have hpoll := portKeeps_poll (tickSystem (costOf s.cfg f.op s.cpu.taken) (stepHooks a0 f s))
    rw [complete_of_ok a0 f hok]
    exact ⟨hpoll.cpu.trans (by rw [stepHooks_eq]; rfl), hpoll.bootBound.trans (by rw [stepHooks_eq]; rfl),
      hpoll.unbind.trans hhooks.unbind, fun i => hpoll.inv (portKeeps_tickSystem_inv _ _ (hhooks.inv i))⟩
  · rw [complete_of_not_ok a0 f hok]
    exact ⟨rfl, rfl, rfl, id⟩

/-- A completed instruction is charged the cost of its opcode, one that ended in a fault or a refusal nothing. -/
theorem complete_sched (a0 : Word) (f : Fetched) (s : State) :
    (s.status = .ok → (complete a0 f s).sched.now = s.sched.now + costOf s.cfg f.op s.cpu.taken) ∧
    (s.status ≠ .ok → (complete a0 f s).sched = s.sched) := by
  refine ⟨fun hok => ?_, fun hok => by rw [complete_of_not_ok a0 f hok]⟩
  rw [complete_of_ok a0 f hok, (portKeeps_poll _).now, stepHooks_eq]
  rfl

/-! The overlay (R211) -/

/-- Each unbind has its event, so with as many events as before no unbind can have been undone. -/
theorem Keeps.bootBound_of_unbound {s t : State} (h : Keeps s t) (hs : s.mem.bootBound = false) :
    t.mem.bootBound = false := by
  obtain ⟨es, hout⟩ := h.out
  have hsum := h.unbind
  rw [unbindSum, unbindSum, hout, hs, List.count_append] at hsum
  cases ht : t.mem.bootBound with
  | false => rfl
  | true =>
    rw [ht, Bool.toNat_true, Bool.toNat_false] at hsum
    omega

/-- The first fetch at PC = 0x0100 removes the overlay. -/
theorem fetchByte_bootBound {s : State} (hpc : s.cpu.pc = 0x0100) : (fetchByte s).2.mem.bootBound = false := by
  have hmem : (fetchByte s).2.mem = (unbindIfDue s).mem := by simp [fetchByte]
  rw [hmem]
  obtain ⟨-, -, hdue⟩ | ⟨hnot, hnone⟩ := unbindIfDue_cases s
  · rw [hdue]
    rfl
  · rw [hnone]
    exact Bool.eq_false_of_not_eq_true fun hb => hnot ⟨hb, hpc⟩

/-! The table of costs (R920 to R922) -/

/-- The primary opcodes with two costs are those of the conditional transfers (R921). -/
theorem mem_conditional_of_two_costs : ∀ op : Byte, (defaultCost op.toNat).1 ≠ (defaultCost op.toNat).2 →
    op ∈ [Cond.nz, .z, .nc, .c].flatMap fun cc => [opByte (0x20 + 8 * condCode cc), opByte (0xC2 + 8 * condCode cc),
      opByte (0xC4 + 8 * condCode cc), opByte (0xC0 + 8 * condCode cc)] := by decide

theorem instr?_conditional (cc : Cond) (n : Byte) (nn : Word) :
    (mainEntry (opByte (0x20 + 8 * condCode cc))).instr? n nn = some (.ofJr cc n) ∧
    (mainEntry (opByte (0xC2 + 8 * condCode cc))).instr? n nn = some (.ofJp cc nn) ∧
    (mainEntry (opByte (0xC4 + 8 * condCode cc))).instr? n nn = some (.ofCall cc nn) ∧
    (mainEntry (opByte (0xC0 + 8 * condCode cc))).instr? n nn = some (.ofRet cc) := by
  cases cc <;> exact ⟨rfl, rfl, rfl, rfl⟩

/-- Only the conditional transfers have a cost of their own when taken: every CB row has one cost (R921, R922). -/
theorem eq_conditional_of_two_costs {i : Instr} (h : (defaultCost (opcode i)).1 ≠ (defaultCost (opcode i)).2) :
    ∃ (cc : Cond) (n : Byte) (nn : Word), i = .ofJr cc n ∨ i = .ofJp cc nn ∨ i = .ofCall cc nn ∨ i = .ofRet cc := by
  have hi : i ≠ .cbPrefix := by
    rintro rfl
    exact h rfl
  obtain ⟨op, n, nn, hinstr, hop⟩ | ⟨op2, rfl⟩ := exists_entry hi
  case inr =>
    have hop : opcode (cbEntry op2) = 0xCB00 + op2.toNat := congrArg TableRow.op (cbEntry_tableRow op2)
    rw [hop, defaultCost, if_neg (by omega)] at h
    exact absurd rfl h
  rw [hop] at h
  obtain ⟨cc, -, hmem⟩ := List.mem_flatMap.mp (mem_conditional_of_two_costs op h)
  obtain ⟨hjr, hjp, hcall, hret⟩ := instr?_conditional cc n nn
  simp only [List.mem_cons, List.not_mem_nil, or_false] at hmem
  refine ⟨cc, n, nn, ?_⟩
  obtain rfl | rfl | rfl | rfl := hmem
  · exact .inl (Option.some.inj (hinstr.symm.trans hjr))
  · exact .inr (.inl (Option.some.inj (hinstr.symm.trans hjp)))
  · exact .inr (.inr (.inl (Option.some.inj (hinstr.symm.trans hcall))))
  · exact .inr (.inr (.inr (Option.some.inj (hinstr.symm.trans hret))))

/-- The cost of a row with an immediate, by the opcode that does not depend on it. -/
theorem defaultCost_of_opcode {i : Instr} (op : Nat) {c : Nat × Nat} (hop : opcode i = op) (hc : defaultCost op = c) :
    defaultCost (opcode i) = c := by
  rw [hop, hc]

theorem opcode_ofJr (cc : Cond) (n : Byte) : opcode (.ofJr cc n) = 0x20 + 8 * condCode cc := by cases cc <;> rfl
theorem opcode_ofJp (cc : Cond) (nn : Word) : opcode (.ofJp cc nn) = 0xC2 + 8 * condCode cc := by cases cc <;> rfl
theorem opcode_ofCall (cc : Cond) (nn : Word) : opcode (.ofCall cc nn) = 0xC4 + 8 * condCode cc := by cases cc <;> rfl
theorem opcode_ofAluImm (o : AluOp) (n : Byte) : opcode (.ofAluImm o n) = 0xC6 + 8 * aluCode o := by cases o <;> rfl
theorem opcode_ofLdImm (r : Reg8) (n : Byte) : opcode (.ofLdImm r n) = 0x06 + 8 * regCode r := by cases r <;> rfl
theorem opcode_ofLdRR (p : RR) (nn : Word) : opcode (.ofLdRR p nn) = 0x01 + 16 * rrCode p := by cases p <;> rfl

theorem cost_conditional (cc : Cond) (n : Byte) (nn : Word) :
    defaultCost (opcode (.ofJr cc n)) = (8, 12) ∧ defaultCost (opcode (.ofJp cc nn)) = (12, 16) ∧
    defaultCost (opcode (.ofCall cc nn)) = (12, 24) ∧ defaultCost (opcode (.ofRet cc)) = (8, 20) := by
  rw [opcode_ofJr, opcode_ofJp, opcode_ofCall]
  cases cc <;> exact ⟨rfl, rfl, rfl, rfl⟩

theorem cost_ofAluImm (o : AluOp) (n : Byte) : defaultCost (opcode (.ofAluImm o n)) = (8, 8) := by
  rw [opcode_ofAluImm]
  cases o <;> rfl

theorem cost_ofLdImm (r : Reg8) (n : Byte) : defaultCost (opcode (.ofLdImm r n)) = (8, 8) := by
  rw [opcode_ofLdImm]
  cases r <;> rfl

theorem cost_ofLdRR (p : RR) (nn : Word) : defaultCost (opcode (.ofLdRR p nn)) = (12, 12) := by
  rw [opcode_ofLdRR]
  cases p <;> rfl

theorem cost_ofAlu (o : AluOp) (r : R8) : defaultCost (opcode (.ofAlu o r)) =
    (if r = .mhl then 8 else 4, if r = .mhl then 8 else 4) := by
  cases r with
  | mhl => cases o <;> rfl
  | reg x => cases o <;> cases x <;> rfl

theorem cost_ofIncDec (r : R8) :
    defaultCost (opcode (.ofInc r)) = (if r = .mhl then 12 else 4, if r = .mhl then 12 else 4) ∧
    defaultCost (opcode (.ofDec r)) = (if r = .mhl then 12 else 4, if r = .mhl then 12 else 4) := by
  cases r with
  | mhl => exact ⟨rfl, rfl⟩
  | reg x => cases x <;> exact ⟨rfl, rfl⟩

/-! The CB part (R922): the operand is the low field of the opcode, and BIT is the quarter that differs -/

theorem r8Code_eq_six_iff (r : R8) : r8Code r = 6 ↔ r = .mhl := by
  cases r with
  | mhl => exact ⟨fun _ => rfl, fun _ => rfl⟩
  | reg x => cases x <;> decide

theorem r8Code_lt (r : R8) : r8Code r < 8 := by
  cases r with
  | mhl => decide
  | reg x => cases x <;> decide

/-- The cost of the CB opcode of the fields x, y and `r` (R301). -/
theorem defaultCost_cb {x y : Nat} (hx : x < 4) (hy : y < 8) (r : R8) :
    defaultCost (0xCB00 + 64 * x + 8 * y + r8Code r) =
      (if r = .mhl then (if x = 1 then 12 else 16) else 8, if r = .mhl then (if x = 1 then 12 else 16) else 8) := by
  have hr := r8Code_lt r
  have hop2 : (0xCB00 + 64 * x + 8 * y + r8Code r) % 0x100 = 64 * x + 8 * y + r8Code r := by omega
  have hz : (64 * x + 8 * y + r8Code r) % 8 = r8Code r := by omega
  have hx' : (64 * x + 8 * y + r8Code r) / 64 = x := by omega
  rw [defaultCost, if_neg (by omega), hop2, cbCost, hz, hx']
  simp only [r8Code_eq_six_iff]

theorem opcode_ofRot (o : RotOp) (r : R8) : opcode (.ofRot o r) = 0xCB00 + 64 * 0 + 8 * rotCode o + r8Code r := by
  cases r with
  | mhl => cases o <;> rfl
  | reg x => cases o <;> cases x <;> rfl

theorem opcode_ofBit (b : BitIx) (r : R8) : opcode (.ofBit b r) = 0xCB00 + 64 * 1 + 8 * bitCode b + r8Code r := by
  cases r with
  | mhl => cases b <;> rfl
  | reg x => cases b <;> cases x <;> rfl

theorem opcode_ofRes (b : BitIx) (r : R8) : opcode (.ofRes b r) = 0xCB00 + 64 * 2 + 8 * bitCode b + r8Code r := by
  cases r with
  | mhl => cases b <;> rfl
  | reg x => cases b <;> cases x <;> rfl

theorem opcode_ofSet (b : BitIx) (r : R8) : opcode (.ofSet b r) = 0xCB00 + 64 * 3 + 8 * bitCode b + r8Code r := by
  cases r with
  | mhl => cases b <;> rfl
  | reg x => cases b <;> cases x <;> rfl

theorem rotCode_lt (o : RotOp) : rotCode o < 8 := by cases o <;> decide
theorem bitCode_lt (b : BitIx) : bitCode b < 8 := by cases b <;> decide

theorem cost_cb (o : RotOp) (b : BitIx) (r : R8) :
    let c := if r = .mhl then 16 else 8
    defaultCost (opcode (.ofRot o r)) = (c, c) ∧ defaultCost (opcode (.ofRes b r)) = (c, c) ∧
    defaultCost (opcode (.ofSet b r)) = (c, c) ∧
    defaultCost (opcode (.ofBit b r)) = (if r = .mhl then 12 else 8, if r = .mhl then 12 else 8) := by
  rw [opcode_ofRot, opcode_ofBit, opcode_ofRes, opcode_ofSet]
  exact ⟨defaultCost_cb (by decide) (rotCode_lt o) r, defaultCost_cb (by decide) (bitCode_lt b) r,
    defaultCost_cb (by decide) (bitCode_lt b) r, defaultCost_cb (by decide) (bitCode_lt b) r⟩

/-- A configuration that does not override an opcode charges the default (R9, R325). -/
theorem costOf_of_not_overridden {cfg : Config} {op : Nat} (h : ∀ r ∈ cfg.costs, r.op ≠ op) (taken : Bool) :
    costOf cfg op taken = if taken then (defaultCost op).2 else (defaultCost op).1 := by
  have hnone : cfg.costs.find? (fun r => r.op == op) = none := by
    simpa only [List.find?_eq_none, beq_iff_eq] using h
  rw [costOf, costEntry, hnone]

end Sys2Proof.Machine

/-- Settles O18: what is fetched is the instruction the bytes at PC decode to, and `complete` is the end of the step. -/
theorem stepRunsTheDecodedInstruction : Obligations.StepRunsTheDecodedInstruction := by
  unfold Obligations.StepRunsTheDecodedInstruction
  intro s i rest hrun hdecode s1 f
  obtain ⟨t, hexec, -⟩ := exec_next_keeps i s1
  have hfetch : fetchInstr (setTaken false s) = f := fetchInstr_eq hdecode
  have hcomplete : complete s.cpu.pc f t = if t.status = .ok
      then poll (tickSystem (costOf t.cfg (opcode i) t.cpu.taken) (stepHooks s.cpu.pc f t)) else t := by
    split
    · exact complete_of_ok _ _ ‹_›
    · exact complete_of_not_ok _ _ ‹_›
  refine ⟨⟨t, hexec, ?step⟩, fetchedBytes_cpu _ _, (fetchedBytes_status _ _).trans hrun.1, fetchedBytes_cells _ _⟩
  case step =>
    rw [step_eq_next_iff, ← hcomplete]
    exact ⟨hrun, by simp only [runInstr, hfetch, f, hexec]⟩

/-- Settles O20: fetch and instruction keep what `Keeps` says, and the end of the step the invariant. -/
theorem stepKeepsTheInvariant : Obligations.StepKeepsTheInvariant := by
  unfold Obligations.StepKeepsTheInvariant
  intro s t hinv hstep
  obtain ⟨-, u, hexec, rfl⟩ := step_cases hstep
  exact (endKeeps_complete _ _ u).inv ((keeps_fetch_exec hexec).inv hinv)

/-- Settles O22: `unbindSum` is conserved throughout, and the first fetch at 0x0100 is where the overlay goes. -/
theorem overlayIsRemovedOnce : Obligations.OverlayIsRemovedOnce := by
  unfold Obligations.OverlayIsRemovedOnce
  intro s t hstep
  obtain ⟨-, u, hexec, rfl⟩ := step_cases hstep
  have hkeeps := keeps_fetch_exec hexec
  have hend := endKeeps_complete s.cpu.pc (fetchInstr (setTaken false s)) u
  refine ⟨hend.unbind.trans hkeeps.unbind, fun hb => hend.bootBound.trans (hkeeps.bootBound_of_unbound hb),
    fun hpc => hend.bootBound.trans ?_⟩
  have hfirst := fetchByte_bootBound (s := setTaken false s) hpc
  exact ((keeps_fetchInstr_of_fetchByte _).trans (exec_keeps hexec)).bootBound_of_unbound hfirst

/-- Settles O23: no instruction touches the scheduler, so the end of the step alone moves the clock. -/
theorem clockChargesTheCost : Obligations.ClockChargesTheCost := by
  unfold Obligations.ClockChargesTheCost
  intro s t i rest hdecode hstep
  obtain ⟨-, u, hexec, rfl⟩ := step_cases hstep
  have hkeeps := keeps_fetch_exec hexec
  have hop : (fetchInstr (setTaken false s)).op = opcode i :=
    congrArg Fetched.op (fetchInstr_eq (s := setTaken false s) hdecode)
  obtain ⟨hcharged, hfree⟩ := complete_sched s.cpu.pc (fetchInstr (setTaken false s)) u
  rw [complete_status, (endKeeps_complete _ _ u).cpu, ← hkeeps.sched, ← hkeeps.cfg, ← hop]
  exact ⟨hcharged, hfree⟩

/-- Settles O27: the table family by family, with one cost for a register operand and one for (HL); the default where
nothing is overridden; and what a step charges, which is O23. -/
theorem costTable : Obligations.CostTable := by
  unfold Obligations.CostTable
  refine ⟨cost_conditional, fun _ => eq_conditional_of_two_costs,
    fun o r n => ⟨cost_ofAlu o r, cost_ofAluImm o n, (cost_ofIncDec r).1, (cost_ofIncDec r).2⟩,
    fun r r' n => ⟨?ld, ?fromHl, ?toHl, cost_ofLdImm r n, defaultCost_of_opcode 0x36 rfl rfl⟩, ?indirect, ?short,
    fun n nn => ?immediate, fun p q t nn => ⟨cost_ofLdRR p nn, ?incRR, ?decRR, ?addHl, ?push, ?pop, ?rst, rfl, rfl⟩,
    fun o b r => ?cb, fun n => ?placeholders,
    fun cfg op h => ⟨costOf_of_not_overridden h false, costOf_of_not_overridden h true⟩, clockChargesTheCost⟩
  case ld => cases r <;> cases r' <;> rfl
  case fromHl | toHl => cases r <;> rfl
  case incRR | decRR | addHl => cases p <;> rfl
  case push | pop => cases q <;> rfl
  case rst => cases t <;> rfl
  case indirect | short => decide
  case immediate => exact ⟨defaultCost_of_opcode 0xF0 rfl rfl, defaultCost_of_opcode 0xE0 rfl rfl,
      defaultCost_of_opcode 0xFA rfl rfl, defaultCost_of_opcode 0xEA rfl rfl, defaultCost_of_opcode 0x08 rfl rfl,
      defaultCost_of_opcode 0xE8 rfl rfl, defaultCost_of_opcode 0xF8 rfl rfl, defaultCost_of_opcode 0x18 rfl rfl,
      defaultCost_of_opcode 0xC3 rfl rfl, defaultCost_of_opcode 0xCD rfl rfl⟩
  case cb => exact cost_cb o b r
  case placeholders =>
    simp only [placeholderOpcodes, List.forall_mem_cons]
    exact ⟨rfl, rfl, defaultCost_of_opcode 0x10 rfl rfl, rfl, rfl, nofun⟩

end

section
/-! PROOFS. The frames of the instructions: what each leaves alone in memory, in the registers and in the flags, from
the frames of the operations it is made of (`MemFrame`, `CpuFrame`), and what every instruction leaves to the engine
(10_state.md R106, R110 to R119; the "flags" column and the destinations of 40_alu8.md to 46_misc.md). -/

open Sys2Proof Sys2Proof.Machine

namespace Sys2Proof.Machine

/-- The flags column of a row that writes no flag. -/
abbrev keptFlags : FlagColumn := ⟨.kept, .kept, .kept, .kept⟩

theorem FlagRule.allows_of_eq {r : FlagRule} {old old' new : Bool} (h : r.allows old' new) (heq : old' = old) :
    r.allows old new := heq ▸ h

/-- One frame after another, the first of which writes no flag. -/
theorem CpuFrame.trans {regs regs' : List Reg8} {sp sp' : Bool} {fc : FlagColumn} {s t u : State}
    (h : CpuFrame regs sp keptFlags s t) (g : CpuFrame regs' sp' fc t u) :
    CpuFrame (regs ++ regs') (sp || sp') fc s u where
  regs := fun r hr => by
    rw [List.mem_append, not_or] at hr
    exact (g.regs r hr.2).trans (h.regs r hr.1)
  sp := fun e => by
    rw [Bool.or_eq_false_iff] at e
    exact (g.sp e.2).trans (h.sp e.1)
  z := FlagRule.allows_of_eq g.z h.z
  n := FlagRule.allows_of_eq g.n h.n
  h := FlagRule.allows_of_eq g.h h.h
  c := FlagRule.allows_of_eq g.c h.c

/-- What an operation from `s` to `t` leaves alone: all memory but the addresses `st`, all registers but `regs`, SP
unless `sp`, and each flag as the column `fc` says. -/
structure Frame (s t : State) (st : List Word) (regs : List Reg8) (sp : Bool) (fc : FlagColumn) : Prop where
  mem : MemFrame st s t
  cpu : CpuFrame regs sp fc s t

/-- One operation after another. The second must start at the same PC, on which the unbind depends (R211). -/
theorem Frame.trans {s t u : State} {st st' : List Word} {regs regs' : List Reg8} {sp sp' : Bool} {fc : FlagColumn}
    (h : Frame s t st regs sp keptFlags) (g : Frame t u st' regs' sp' fc) (hpc : t.cpu.pc = s.cpu.pc) :
    Frame s u (st ++ st') (regs ++ regs') (sp || sp') fc :=
  ⟨h.mem.trans g.mem hpc, h.cpu.trans g.cpu⟩

/-- An update of the cpu after a frame. -/
theorem Frame.then {s t u : State} {st : List Word} {regs regs' : List Reg8} {sp sp' : Bool} {fc : FlagColumn}
    (h : Frame s t st regs sp keptFlags) (g : CpuFrame regs' sp' fc t u) (hmem : u.mem = t.mem) :
    Frame s u st (regs ++ regs') (sp || sp') fc :=
  ⟨h.mem.then hmem, h.cpu.trans g⟩

/-- The flags are set after a frame that keeps them. -/
theorem Frame.setFlags {s t : State} {st : List Word} {regs : List Reg8} {sp : Bool}
    (h : Frame s t st regs sp keptFlags) (f : Flags) (fc : FlagColumn) (hz : fc.z.allows s.cpu.flags.z f.z)
    (hn : fc.n.allows s.cpu.flags.n f.n) (hh : fc.h.allows s.cpu.flags.h f.h) (hc : fc.c.allows s.cpu.flags.c f.c) :
    Frame s (Machine.setFlags f t) st regs sp fc :=
  ⟨h.mem.then (setFlags_mem f t), h.cpu.setFlags f fc hz hn hh hc⟩

/-! Registers -/

section
variable (s : State)

theorem frame_of_eq {t : State} (hcpu : t.cpu = s.cpu) (hmem : t.mem = s.mem) : Frame s t [] [] false keptFlags :=
  ⟨memFrame_of_mem _ hmem, cpuFrame_of_cpu _ _ hcpu⟩

theorem cpuFrame_setSp (v : Word) : CpuFrame [] true keptFlags s (setSp v s) :=
  ⟨fun r _ => reg_setSp r v s, nofun, rfl, rfl, rfl, rfl⟩

theorem cpuFrame_setPc (v : Word) : CpuFrame [] false keptFlags s (setPc v s) :=
  ⟨fun r _ => reg_setPc r v s, fun _ => rfl, rfl, rfl, rfl, rfl⟩

theorem cpuFrame_setTaken (v : Bool) : CpuFrame [] false keptFlags s (setTaken v s) :=
  ⟨fun r _ => reg_setTaken r v s, fun _ => rfl, rfl, rfl, rfl, rfl⟩

theorem frame_setReg (r : Reg8) (v : Byte) : Frame s (setReg r v s) [] [r] false keptFlags :=
  ⟨memFrame_of_mem _ (setReg_mem r v s), cpuFrame_setReg r v s⟩

theorem frame_setSp (v : Word) : Frame s (setSp v s) [] [] true keptFlags :=
  ⟨memFrame_of_mem _ rfl, cpuFrame_setSp s v⟩

theorem frame_setPc (v : Word) : Frame s (setPc v s) [] [] false keptFlags :=
  ⟨memFrame_of_mem _ rfl, cpuFrame_setPc s v⟩

theorem frame_setFlags (f : Flags) (fc : FlagColumn) (hz : fc.z.allows s.cpu.flags.z f.z)
    (hn : fc.n.allows s.cpu.flags.n f.n) (hh : fc.h.allows s.cpu.flags.h f.h) (hc : fc.c.allows s.cpu.flags.c f.c) :
    Frame s (setFlags f s) [] [] false fc :=
  (frame_of_eq s rfl rfl).setFlags f fc hz hn hh hc

/-- The registers a write of a pair writes. -/
def pairDest : Reg16 → List Reg8
  | .af => [.a]
  | .bc => [.b, .c]
  | .de => [.d, .e]
  | .hl => [.h, .l]
  | .sp | .pc => []

def pairMovesSp : Reg16 → Bool
  | .sp => true
  | .af | .bc | .de | .hl | .pc => false

/-- The flags a write of a pair writes: F is the low byte of AF. -/
def pairColumn : Reg16 → FlagColumn
  | .af => ⟨.computed, .computed, .computed, .computed⟩
  | .bc | .de | .hl | .sp | .pc => keptFlags

theorem frame_setPair (p : Reg16) (v : Word) :
    Frame s (setPair p v s) [] (pairDest p) (pairMovesSp p) (pairColumn p) := by
  cases p with
  | af => exact (frame_setReg s .a (hiByte v)).setFlags _ _ trivial trivial trivial trivial
  | bc => exact (frame_setReg s .b (hiByte v)).then (cpuFrame_setReg .c (loByte v) _) rfl
  | de => exact (frame_setReg s .d (hiByte v)).then (cpuFrame_setReg .e (loByte v) _) rfl
  | hl => exact (frame_setReg s .h (hiByte v)).then (cpuFrame_setReg .l (loByte v) _) rfl
  | sp => exact frame_setSp s v
  | pc => exact frame_setPc s v

/-! The memory ports, the operand and the stack (R13, R210, R215, R600, R601) -/

theorem frame_readEffect (a : Word) : Frame s (readEffect a s) [] [] false keptFlags :=
  ⟨memFrame_readEffect a s, cpuFrame_of_cpu _ _ (readEffect_cpu a s)⟩

theorem frame_memWrite (a : Word) (v : Byte) : Frame s (memWrite a v s) [a] [] false keptFlags :=
  ⟨memFrame_memWrite a v s, cpuFrame_of_cpu _ _ (memWrite_cpu a v s)⟩

theorem frame_readR8 (r : R8) : Frame s (readR8 r s).2 [] [] false keptFlags :=
  ⟨memFrame_readR8 r s, cpuFrame_readR8 r s⟩

/-- A read then a write of the same operand. -/
theorem frame_updateR8 (r : R8) (v : Byte) :
    Frame s (writeR8 r v (readR8 r s).2) (r8Stores r s) (r8Dest r) false keptFlags :=
  ⟨memFrame_updateR8 r v s, cpuFrame_updateR8 r v s⟩

theorem frame_write16 (a v : Word) : Frame s (write16 a v s) [a, a + 1] [] false keptFlags :=
  (frame_memWrite s a _).trans (frame_memWrite _ (a + 1) _) (by rw [memWrite_cpu])

theorem frame_push16 (v : Word) : Frame s (push16 v s) [s.cpu.sp - 1, s.cpu.sp - 2] [] true keptFlags :=
  ⟨memFrame_push16 v s, (cpuFrame_setSp s (s.cpu.sp - 1 - 1)).congr rfl (push16_cpu v s)⟩

theorem frame_pop16 : Frame s (pop16 s).2 [] [] true keptFlags :=
  ⟨memFrame_pop16 s, (cpuFrame_setSp s (s.cpu.sp + 1 + 1)).congr rfl (pop16_cpu s)⟩

/-! 8-bit arithmetic and logic (40_alu8.md) -/

/-- The register an ALU operation writes: A, but for CP (R408). -/
def aluDest : AluOp → List Reg8
  | .cp => []
  | .add | .adc | .sub | .sbc | .and | .xor | .or => [.a]

/-- The flags column of an ALU operation (R401 to R408). -/
def aluColumn : AluOp → FlagColumn
  | .add | .adc => ⟨.computed, .zero, .computed, .computed⟩
  | .sub | .sbc | .cp => ⟨.computed, .one, .computed, .computed⟩
  | .and => ⟨.computed, .zero, .one, .zero⟩
  | .xor | .or => ⟨.computed, .zero, .zero, .zero⟩

theorem frame_aluValue (op : AluOp) (v : Byte) : Frame s (aluValue op v s) [] (aluDest op) false (aluColumn op) := by
  have ha := frame_setReg s .a
  cases op with
  | add | adc | sub | sbc => exact (ha _).setFlags _ _ trivial rfl trivial trivial
  | and | xor | or => exact (ha _).setFlags _ _ trivial rfl rfl rfl
  | cp => exact frame_setFlags s _ _ trivial rfl trivial trivial

theorem frame_aluR8 (op : AluOp) (r : R8) : Frame s (aluR8 op r s) [] (aluDest op) false (aluColumn op) :=
  (frame_readR8 s r).trans (frame_aluValue _ op _) (by rw [readR8_cpu])

theorem frame_incR8 (r : R8) :
    Frame s (incR8 r s) (r8Stores r s) (r8Dest r) false ⟨.computed, .zero, .computed, .kept⟩ :=
  (frame_updateR8 s r _).setFlags _ _ trivial rfl trivial (by simp [FlagRule.allows, incFlags])

theorem frame_decR8 (r : R8) :
    Frame s (decR8 r s) (r8Stores r s) (r8Dest r) false ⟨.computed, .one, .computed, .kept⟩ :=
  (frame_updateR8 s r _).setFlags _ _ trivial rfl trivial (by simp [FlagRule.allows, decFlags])

theorem frame_cplA : Frame s (cplA s) [] [.a] false ⟨.kept, .one, .one, .kept⟩ :=
  (frame_setReg s .a _).setFlags _ _ rfl rfl rfl rfl

theorem frame_setCarry : Frame s (setCarry s) [] [] false ⟨.kept, .zero, .zero, .one⟩ :=
  frame_setFlags s _ _ rfl rfl rfl rfl

theorem frame_flipCarry : Frame s (flipCarry s) [] [] false ⟨.kept, .zero, .zero, .computed⟩ :=
  frame_setFlags s _ _ rfl rfl rfl trivial

theorem frame_placeholder (op : Byte) (len : Word) : Frame s (placeholder op len s) [] [] false keptFlags := by
  unfold placeholder
  split <;> exact frame_of_eq s rfl rfl

/-! 16-bit arithmetic (41_alu16.md) -/

theorem frame_addHlRR (p : RR) : Frame s (addHlRR p s) [] [.h, .l] false ⟨.kept, .zero, .computed, .computed⟩ :=
  (frame_setPair s .hl _).setFlags _ _ rfl rfl trivial trivial

theorem frame_addSpOffset (u : Byte) : Frame s (addSpOffset u s) [] [] true ⟨.zero, .zero, .computed, .computed⟩ :=
  (frame_setSp s _).setFlags _ _ rfl rfl trivial trivial

theorem frame_ldHlSpOffset (u : Byte) :
    Frame s (ldHlSpOffset u s) [] [.h, .l] false ⟨.zero, .zero, .computed, .computed⟩ :=
  (frame_setPair s .hl _).setFlags _ _ rfl rfl trivial trivial

/-! Rotates, shifts and bits (42_rotate_shift.md, 43_bit.md) -/

/-- The flags column of a CB rotate or shift: SWAP clears C (R504, R511). -/
def rotColumn : RotOp → FlagColumn
  | .swap => ⟨.computed, .zero, .zero, .zero⟩
  | .rlc | .rrc | .rl | .rr | .sla | .sra | .srl => ⟨.computed, .zero, .zero, .computed⟩

theorem frame_rotAcc (op : RotOp) : Frame s (rotAcc op s) [] [.a] false ⟨.zero, .zero, .zero, .computed⟩ :=
  (frame_setReg s .a _).setFlags _ _ rfl rfl rfl trivial

theorem frame_rotR8 (op : RotOp) (r : R8) :
    Frame s (rotR8 op r s) (r8Stores r s) (r8Dest r) false (rotColumn op) := by
  have hupdate := frame_updateR8 s r (rotResult op (readR8 r s).1 (getFlag .c s))
  cases op with
  | swap => exact hupdate.setFlags _ _ trivial rfl rfl rfl
  | rlc | rrc | rl | rr | sla | sra | srl => exact hupdate.setFlags _ _ trivial rfl rfl trivial

theorem frame_bitR8 (b : BitIx) (r : R8) : Frame s (bitR8 b r s) [] [] false ⟨.computed, .zero, .one, .kept⟩ :=
  (frame_readR8 s r).setFlags _ _ trivial rfl rfl (by simp [FlagRule.allows, bitFlags])

theorem frame_resR8 (b : BitIx) (r : R8) : Frame s (resR8 b r s) (r8Stores r s) (r8Dest r) false keptFlags :=
  frame_updateR8 s r _

theorem frame_setR8 (b : BitIx) (r : R8) : Frame s (setR8 b r s) (r8Stores r s) (r8Dest r) false keptFlags :=
  frame_updateR8 s r _

/-! Control transfer and stack (44_control.md) -/

theorem frame_callTo (target : Word) :
    Frame s (callTo target s) [s.cpu.sp - 1, s.cpu.sp - 2] [] true keptFlags :=
  (frame_push16 s _).then (cpuFrame_setPc _ target) rfl

theorem frame_returnPop : Frame s (returnPop s) [] [] true keptFlags :=
  (frame_pop16 s).then (cpuFrame_setPc _ _) rfl

theorem frame_pushQQ (q : QQ) : Frame s (pushQQ q s) [s.cpu.sp - 1, s.cpu.sp - 2] [] true keptFlags :=
  frame_push16 s _

theorem frame_popQQ (q : QQ) : Frame s (popQQ q s) [] (pairDest (qqPair q)) true (pairColumn (qqPair q)) :=
  (frame_pop16 s).trans (frame_setPair _ _ _) (by rw [pop16_cpu])

/-- A conditional form does what the unconditional one does, or nothing (R602). -/
theorem frame_ifCond (cc : Cond) {act : State → State} {st : List Word} {sp : Bool}
    (h : Frame s (act s) st [] sp keptFlags) :
    Frame s (ifCond cc act s) (if condHolds cc s then st else []) [] sp keptFlags := by
  unfold ifCond
  split
  · exact ⟨h.mem.then rfl, Bool.or_false sp ▸ h.cpu.trans (cpuFrame_setTaken _ true)⟩
  · exact ⟨memFrame_of_mem _ rfl, cpuFrame_of_cpu _ _ rfl⟩

theorem frame_ifCond_of_no_store (cc : Cond) {act : State → State} {sp : Bool}
    (h : Frame s (act s) [] [] sp keptFlags) : Frame s (ifCond cc act s) [] [] sp keptFlags := by
  have hcond := frame_ifCond s cc h
  rwa [ite_self] at hcond

/-! Loads (45_load.md) -/

theorem frame_loadReg (r : Reg8) (a : Word) : Frame s (loadReg r a s) [] [r] false keptFlags :=
  (frame_readEffect s a).trans (frame_setReg _ r _) (by rw [readEffect_cpu])

theorem cpuFrame_stepHl (d : Word) : CpuFrame [.h, .l] false keptFlags s (stepHl d s) :=
  (frame_setPair s .hl _).cpu

end

/-! Each instruction -/

/-- The frame the tables state of an instruction, from `s` to `t`. -/
def InstrFrame (i : Instr) (s t : State) : Prop := Frame s t (storedTo i s) (destRegs i) (movesSp i) (flagColumn i)

theorem instrFrame_ofRot (op : RotOp) (r : R8) (s : State) : InstrFrame (.ofRot op r) s (rotR8 op r s) := by
  cases r with
  | mhl => cases op <;> exact frame_rotR8 s _ _
  | reg x => cases op <;> cases x <;> exact frame_rotR8 s _ _

theorem instrFrame_ofBit (b : BitIx) (r : R8) (s : State) : InstrFrame (.ofBit b r) s (bitR8 b r s) := by
  cases r with
  | mhl => cases b <;> exact frame_bitR8 s _ _
  | reg x => cases b <;> cases x <;> exact frame_bitR8 s _ _

theorem instrFrame_ofRes (b : BitIx) (r : R8) (s : State) : InstrFrame (.ofRes b r) s (resR8 b r s) := by
  cases r with
  | mhl => cases b <;> exact frame_resR8 s _ _
  | reg x => cases b <;> cases x <;> exact frame_resR8 s _ _

theorem instrFrame_ofSet (b : BitIx) (r : R8) (s : State) : InstrFrame (.ofSet b r) s (setR8 b r s) := by
  cases r with
  | mhl => cases b <;> exact frame_setR8 s _ _
  | reg x => cases b <;> cases x <;> exact frame_setR8 s _ _

/-- The CB table in one statement: one case for each value of the field x (R301, R316). -/
theorem instrFrame_cbEntry (op2 : Byte) (s : State) : InstrFrame (cbEntry op2) s (cbRule op2 s) := by
  rw [cbEntry_eq_cbInstr, cbInstr, cbRule]
  match op2.toNat / 64 with
  | 0 => exact instrFrame_ofRot _ _ s
  | 1 => exact instrFrame_ofBit _ _ s
  | 2 => exact instrFrame_ofRes _ _ s
  | _ + 3 => exact instrFrame_ofSet _ _ s

/-- Every instruction has the frame of its rows: the CB table at once, and the primary table by the operation its
meaning is. -/
theorem exec_instrFrame {i : Instr} (hi : i ≠ .cbPrefix) (s : State) : ∃ t, exec i s = .next t ∧ InstrFrame i s t := by
  obtain ⟨op, _, _, -, hop⟩ | ⟨op2, rfl⟩ := exists_entry hi
  case inr => exact ⟨_, exec_cbEntry op2 s, instrFrame_cbEntry op2 s⟩
  have hmain : opcode i < 0x100 := hop ▸ op.isLt
  clear hop
  cases i
  case nop => exact ⟨_, rfl, frame_of_eq s rfl rfl⟩
  case ldBD8 | ldCD8 | ldDD8 | ldED8 | ldHD8 | ldLD8 | ldAD8 | ldBB | ldBC | ldBD | ldBE | ldBH | ldBL | ldBA
      | ldCB | ldCC | ldCD | ldCE | ldCH | ldCL | ldCA | ldDB | ldDC | ldDD | ldDE | ldDH | ldDL | ldDA | ldEB
      | ldEC | ldED | ldEE | ldEH | ldEL | ldEA | ldHB | ldHC | ldHD | ldHE | ldHH | ldHL | ldHA | ldLB | ldLC
      | ldLD | ldLE | ldLH | ldLL | ldLA | ldAB | ldAC | ldAD | ldAE | ldAH | ldAL | ldAA =>
    exact ⟨_, rfl, frame_setReg s _ _⟩
  case ldAMbc | ldAMde | ldBMhl | ldCMhl | ldDMhl | ldEMhl | ldHMhl | ldLMhl | ldAMhl | ldhAMa8 | ldAMc
      | ldAMa16 => exact ⟨_, rfl, frame_loadReg s _ _⟩
  case ldMbcA | ldMdeA | ldMhlD8 | ldMhlB | ldMhlC | ldMhlD | ldMhlE | ldMhlH | ldMhlL | ldMhlA | ldhMa8A
      | ldMcA | ldMa16A => exact ⟨_, rfl, frame_memWrite s _ _⟩
  case ldMhliA | ldMhldA => exact ⟨_, rfl, (frame_memWrite s _ _).then (cpuFrame_stepHl _ _) rfl⟩
  case ldAMhli | ldAMhld => exact ⟨_, rfl, (frame_loadReg s .a _).then (cpuFrame_stepHl _ _) rfl⟩
  case ldMa16Sp => exact ⟨_, rfl, frame_write16 s _ _⟩
  case ldBcD16 | ldDeD16 | ldHlD16 | ldSpD16 | incBc | incDe | incHl | incSp | decBc | decDe | decHl | decSp =>
    exact ⟨_, rfl, frame_setPair s _ _⟩
  case ldSpHl => exact ⟨_, rfl, frame_setSp s _⟩
  case addHlBc | addHlDe | addHlHl | addHlSp => exact ⟨_, rfl, frame_addHlRR s _⟩
  case addSpE8 => exact ⟨_, rfl, frame_addSpOffset s _⟩
  case ldHlSpE8 => exact ⟨_, rfl, frame_ldHlSpOffset s _⟩
  case addAB | addAC | addAD | addAE | addAH | addAL | addAMhl | addAA | adcAB | adcAC | adcAD | adcAE | adcAH
      | adcAL | adcAMhl | adcAA | subB | subC | subD | subE | subH | subL | subMhl | subA | sbcAB | sbcAC
      | sbcAD | sbcAE | sbcAH | sbcAL | sbcAMhl | sbcAA | andB | andC | andD | andE | andH | andL | andMhl
      | andA | xorB | xorC | xorD | xorE | xorH | xorL | xorMhl | xorA | orB | orC | orD | orE | orH | orL
      | orMhl | orA | cpB | cpC | cpD | cpE | cpH | cpL | cpMhl | cpA => exact ⟨_, rfl, frame_aluR8 s _ _⟩
  case addAD8 | adcAD8 | subD8 | sbcAD8 | andD8 | xorD8 | orD8 | cpD8 => exact ⟨_, rfl, frame_aluValue s _ _⟩
  case incB | incC | incD | incE | incH | incL | incMhl | incA => exact ⟨_, rfl, frame_incR8 s _⟩
  case decB | decC | decD | decE | decH | decL | decMhl | decA => exact ⟨_, rfl, frame_decR8 s _⟩
  case rlca | rrca | rla | rra => exact ⟨_, rfl, frame_rotAcc s _⟩
  case cpl => exact ⟨_, rfl, frame_cplA s⟩
  case scf => exact ⟨_, rfl, frame_setCarry s⟩
  case ccf => exact ⟨_, rfl, frame_flipCarry s⟩
  case jpA16 | jpHl | jrE8 => exact ⟨_, rfl, frame_setPc s _⟩
  case jrNzE8 | jrZE8 | jrNcE8 | jrCE8 | jpNzA16 | jpZA16 | jpNcA16 | jpCA16 =>
    exact ⟨_, rfl, frame_ifCond_of_no_store s _ (frame_setPc s _)⟩
  case rst00 | callA16 | rst08 | rst10 | rst18 | rst20 | rst28 | rst30 | rst38 => exact ⟨_, rfl, frame_callTo s _⟩
  case callNzA16 | callZA16 | callNcA16 | callCA16 => exact ⟨_, rfl, frame_ifCond s _ (frame_callTo s _)⟩
  case ret | reti => exact ⟨_, rfl, frame_returnPop s⟩
  case retNz | retZ | retNc | retC => exact ⟨_, rfl, frame_ifCond_of_no_store s _ (frame_returnPop s)⟩
  case pushBc | pushDe | pushHl | pushAf => exact ⟨_, rfl, frame_pushQQ s _⟩
  case popBc | popDe | popHl | popAf => exact ⟨_, rfl, frame_popQQ s _⟩
  case stop | daa | halt | di | ei => exact ⟨_, rfl, frame_placeholder s _ _⟩
  case noEntryD3 | noEntryDB | noEntryDD | noEntryE3 | noEntryE4 | noEntryEB | noEntryEC | noEntryED | noEntryF4
      | noEntryFC | noEntryFD => exact ⟨_, rfl, frame_of_eq s rfl rfl⟩
  case cbPrefix => exact absurd rfl hi
  all_goals exact absurd hmain (by decide)

theorem instrFrame_of_exec {i : Instr} {s t : State} (hi : i ≠ .cbPrefix) (h : exec i s = .next t) :
    InstrFrame i s t := by
  obtain ⟨u, hu, hframe⟩ := exec_instrFrame hi s
  obtain rfl := Host.Outcome.next.inj (hu.symm.trans h)
  exact hframe

/-! What memory reads after a frame -/

/-- With the overlay as it was, or above its window, an address not stored to reads as before: its backing byte is the
same and no address stored to shares it. -/
theorem MemFrame.peek_eq {st : List Word} {s t : State} (h : MemFrame st s t) {a : Word} (ha : a ∉ st)
    (hboot : 0x0100 ≤ a.toNat ∨ t.mem.bootBound = s.mem.bootBound) : peek a t = peek a s := by
  have hback : Machine.backing t.mem a = Machine.backing s.mem a := by
    obtain habove | hsame := hboot
    · exact h.backing a habove
    · rw [h.rest, hsame]
      rfl
  unfold peek busPeek
  rw [hback]
  split
  · rename_i k hk
    exact h.cells k fun b hb _ hbk => ha (backing_inj _ _ _ _ _ hk hbk ▸ hb)
  · rfl

end Sys2Proof.Machine

/-- Settles O57: the memory part of the instruction's frame, and what addresses read after it. -/
theorem memoryFrame : Obligations.MemoryFrame := by
  unfold Obligations.MemoryFrame
  intro i s t hi hexec
  have hmem := (instrFrame_of_exec hi hexec).mem
  exact ⟨hmem.cells, fun a ha hboot => hmem.peek_eq ha hboot, hmem.boot⟩

/-- Settles O58: the registers of the instruction's frame. -/
theorem registerFrame : Obligations.RegisterFrame := by
  unfold Obligations.RegisterFrame
  intro i s t hi hexec
  have hcpu := (instrFrame_of_exec hi hexec).cpu
  exact ⟨hcpu.regs, hcpu.sp⟩

/-- Settles O59: the flags of the instruction's frame. -/
theorem flagFrame : Obligations.FlagFrame := by
  unfold Obligations.FlagFrame
  intro i s t hi hexec
  have hcpu := (instrFrame_of_exec hi hexec).cpu
  exact ⟨hcpu.z, hcpu.n, hcpu.h, hcpu.c⟩

/-- Settles O60: `Keeps` says it of every instruction, but for the status, which `exec_status_cases` settles. -/
theorem engineFrame : Obligations.EngineFrame := by
  unfold Obligations.EngineFrame
  intro i s t hexec
  have h := exec_keeps hexec
  refine ⟨h.sched, h.dbg, h.cfg, h.callbacks, h.ties, h.halted, h.stopped,
    ⟨h.romBanks, h.romBank, h.eramBank, h.wramBank, h.bankState⟩, h.out, fun hentry hplaceholder => ?status⟩
  case status =>
    obtain hmem | ⟨n, len, hmem⟩ | ⟨u, hu, hstatus⟩ := exec_status_cases i s
    · have hnone : ∀ x ∈ noEntryOpcodes, x.1.isNoEntry = true := by decide
      exact absurd (hnone _ hmem) (by simp [hentry])
    · exact absurd rfl (hplaceholder n _ hmem)
    · obtain rfl := Host.Outcome.next.inj (hu.symm.trans hexec)
      exact hstatus

end
